-- ==== Sys2Proof/Word.lean ====
section
/-! DEFINITION. The words the part's ports carry: stream bytes and 24-bit samples (spec 00_scope 0.6, 01 R17). -/

namespace Sys2Proof

/-- One byte of the sweep stream, of a message stream or of a frame (R17, R161). -/
abbrev Byte := BitVec 8

/-- One audio sample: a 24-bit two's complement value, -8,388,608 to 8,388,607 (R17). -/
abbrev Sample := BitVec 24

end Sys2Proof
end

