-- ==== Sys2Proof/Syntax.lean ====
section
/-! DEFINITION. The commands of the block: one constructor for each row of spec/opcode_table.json.

The rows are the part's own indivisible steps (spec/95_what_each_step_holds.md).
Two of them bring something in from outside the part: PIN_RESET (the reset input) and FRAME_PERIOD (one frame of each
receiving port, byte for byte as R17 lays it out).
Every other row is a step the part itself has due: its operands, where it has any, name which of several due steps is
taken, and everything else it needs (a directive's tag and fields, a sweep's entries) already stands in the state. -/

namespace Sys2Proof

/-- The nine channels: ordinary channels 1 to 8 and the priority channel P (00_scope 0.6). -/
inductive Chan where
  | c1 | c2 | c3 | c4 | c5 | c6 | c7 | c8 | p
deriving DecidableEq, Repr

/-- The two orders in which the emission and the counts of one interval start may be taken (R6, R115); DESIGN CHOICE, log
entry 5. -/
inductive IntervalOrder where
  /-- The sweep is emitted first: it carries the state before the counts. -/
  | emissionFirst
  /-- The lockouts, held counts and timers are counted first: the sweep carries what they change. -/
  | countsFirst
deriving DecidableEq, Repr

/-- The block's commands, in the table's order. -/
inductive Instr where
  /-- PIN_RESET: the reset input is pulsed. -/
  | pinReset
  /-- FRAME_PERIOD: one frame period passes.
  `returned` is the 45-byte frame completed on trunk-return in it, if one was;
  `head` is the 8-byte head frame completed in step in it, if one was. -/
  | framePeriod (returned head : Option (List Byte))
  /-- HEAD_LINK_LOCK: the lock count stands at 48 and the head link locks. -/
  | headLinkLock
  /-- HEAD_LINK_UNLOCK: the frame period without an in-step head frame unlocks the link. -/
  | headLinkUnlock
  /-- SWEEP_INTERVAL_START: the next sweep interval begins, its emission and counts in the order given. -/
  | sweepIntervalStart (order : IntervalOrder)
  /-- BLINK_PHASE_TOGGLE: the blink count would reach 125. -/
  | blinkPhaseToggle
  /-- LOCKOUT_EXPIRY: the lockout of `seat` reaches 0. -/
  | lockoutExpiry (seat : Nat)
  /-- EXPIRED: the timer of `ch` reaches 0 under REVOKE. -/
  | expired (ch : Chan)
  /-- TIME_OVER: the timer of `ch` reaches 0 under WARN_ONLY. -/
  | timeOver (ch : Chan)
  /-- LOST_SWEEP: the awaited sweep is declared lost. -/
  | lostSweep
  /-- TRUNK_DOWN: the lost-sweep run has reached 25 and the trunk breaks. -/
  | trunkDown
  /-- SWEEP_RETURNED: the record that came back is handed to its consumers. -/
  | sweepReturned
  /-- SEAT_LOST: the seats whose silence count reaches the presence timeout are lost. -/
  | seatLost
  /-- REQUEST: the key filter presents the request of `seat`. -/
  | request (seat : Nat)
  /-- WITHDRAW: the key filter presents the withdraw of `seat`. -/
  | withdraw (seat : Nat)
  /-- NEXT_ACTION: the key filter presents the next of the chair at `seat`. -/
  | nextAction (seat : Nat)
  /-- CANCEL_ACTION: the key filter presents the cancel of the chair at `seat`. -/
  | cancelAction (seat : Nat)
  /-- PRIORITY_HELD: the key filter presents the priority-held of the chair at `seat`. -/
  | priorityHeld (seat : Nat)
  /-- PRIORITY_RELEASED: the key filter presents the priority-released of the chair at `seat`. -/
  | priorityReleased (seat : Nat)
  /-- AUDIT_SWEEP: the audit takes its work for the returned sweep. -/
  | auditSweep
  /-- CHANNEL_FREED: the released channel `ch`, reported at gain 0, becomes FREE. -/
  | channelFreed (ch : Chan)
  /-- MESSAGE_HEADER: the header that has arrived is judged against the input buffer. -/
  | messageHeader
  /-- DIRECTIVE_COMPLETE: the oldest complete directive not yet decoded is decoded. -/
  | directiveComplete
  /-- SKIP_ENTRY_DISPATCH: the oldest entry, a skip entry, is dispatched. -/
  | skipEntryDispatch
  /-- UNKNOWN_KIND: the oldest entry, of a kind outside the table, is dispatched. -/
  | unknownKind
  /-- LOAD_SEATS: the oldest entry, of kind 01h, is dispatched; so for the next fifteen with their kinds. -/
  | loadSeats
  | readSeats
  | setGeneral
  | stageItem
  | advanceItem
  | flushAgenda
  | grant
  | revoke
  | enqueue
  | remove
  | next
  | cancelAll
  | extend
  | clearFlag
  | readFloor
  | restart
  /-- MESSAGE_START: at a message boundary the next outgoing message begins. -/
  | messageStart
  /-- MESSAGE_SENT: the message whose last byte has been sent leaves its queue. -/
  | messageSent
deriving DecidableEq, Repr

end Sys2Proof
end

