-- ==== Sys2Proof/Decode.lean ====
section
/-! DEFINITION. What a word of the opcode table's bits spells.
No row of spec/opcode_table.json gives bits: the part has no instruction words, its commands are events (98_reader.md
counts 43 rows and none with "fixed" bits).
The coding of the directives that arrive in the head port's message stream is R162's, in Machine/Directives.lean. -/

namespace Sys2Proof

/-- The command a word of the table's bits spells: none, since no row gives bits. -/
def decodeTableWord (_nbits _w : Nat) : Option Instr := none

end Sys2Proof
end

