-- ==== Sys2Proof/Config.lean ====
section
/-! DEFINITION. The constants the manual fixes for every FC200.
The manual leaves no value to the implementation, so this file holds numbers only and no free value. -/

namespace Sys2Proof.Config

/-- Seat numbers run from 1 to 200 (00_scope 0.6). -/
abbrev seatCount : Nat := 200
/-- Frame periods of one sweep interval (R4). -/
abbrev framesPerInterval : Nat := 96
/-- Sweep-stream bytes of one trunk frame (R1, R4). -/
abbrev streamBytesPerFrame : Nat := 12
/-- Bytes of a sweep record: the header and 200 seat entries (R4). -/
abbrev recordBytes : Nat := 804
/-- Bytes of a sweep header (R4). -/
abbrev headerBytes : Nat := 4
/-- Bytes of a trunk frame (R17). -/
abbrev trunkFrameBytes : Nat := 45
/-- Bytes of an incoming head frame (R17). -/
abbrev headInBytes : Nat := 8
/-- Sweep numbers wrap from 65,535 to 0 (R5). -/
abbrev sweepModulus : Nat := 65536
/-- Sweep intervals of one blink phase (R5). -/
abbrev blinkPeriod : Nat := 125
/-- Consecutive lost sweeps that bring the trunk DOWN (R11). -/
abbrev lostRunLimit : Nat := 25
/-- In-step head frames that lock the head link (R13). -/
abbrev lockFrames : Nat := 48
/-- Sweep intervals of one second given in a directive (00_scope 0.5). -/
abbrev intervalsPerSecond : Nat := 500
/-- Sweep intervals of one tenth of a second given in a notice (00_scope 0.5). -/
abbrev intervalsPerTenth : Nat := 50
/-- The largest speaking time, 3,600 s in sweep intervals (R102). -/
abbrev remainingMax : Nat := 1800000
/-- The cap of a held count, in sweep intervals (R111). -/
abbrev heldMax : Nat := 32767500
/-- The cap of a 16-bit report (R108, R166). -/
abbrev wordMax : Nat := 65535
/-- Unity gain, level or duck depth (R137). -/
abbrev unity : Nat := 32768
/-- The cap of a mismatch count (R152). -/
abbrev mismatchMax : Nat := 15
/-- Bytes of the directive input buffer (R163). -/
abbrev bufferBytes : Nat := 1024
/-- The longest message body (R161). -/
abbrev bodyMax : Nat := 250
/-- Replies the reply queue holds (R164). -/
abbrev replyMax : Nat := 4
/-- Notices the notice queue holds (R166). -/
abbrev noticeMax : Nat := 32
/-- Contexts the agenda queue holds (R56). -/
abbrev agendaMax : Nat := 2

end Sys2Proof.Config
end

