-- ==== Sys2Proof/Machine/State.lean ====
section
/-! DEFINITION. The state of the FC200, block by block as 00_scope 0.4 divides it, and its value at pin reset.

Every field named for a block is the manual's; the two fields `owed` and `pending` are the model's own.
`owed` holds the steps that an earlier step has made due and that the opcode table lists as steps of their own;
`pending` is the queue of commands that wait. -/

namespace Sys2Proof.Machine

/-! ## Enumerations, each in the order in which the manual lists its values (R161) -/

/-- R18: class. -/
inductive SeatClass where
  | delegate | chair | guest | observer
deriving DecidableEq, Repr

/-- R18: key action. -/
inductive KeyAction where
  | push | hold
deriving DecidableEq, Repr

/-- R73: a seat's floor state. -/
inductive Place where
  | idle | waiting | live
deriving DecidableEq, Repr

/-- R72: the floor state. -/
inductive Floor where
  | closed | opened | held
deriving DecidableEq, Repr

/-- R53: mode. -/
inductive Mode where
  | direct | queued | moderated | override
deriving DecidableEq, Repr

/-- R53: expiry. -/
inductive Expiry where
  | revoke | warnOnly
deriving DecidableEq, Repr

/-- R53: priority end. -/
inductive PriorityEnd where
  | resume | clear
deriving DecidableEq, Repr

/-- R57: the agenda-empty setting. -/
inductive AgendaEmpty where
  | keep | close
deriving DecidableEq, Repr

/-- R102: the state of a channel. -/
inductive ChanState where
  | free | live | releasing
deriving DecidableEq, Repr

/-- R11: the trunk state. -/
inductive TrunkState where
  | up | down
deriving DecidableEq, Repr

/-- R13: the head link state. -/
inductive LinkState where
  | locked | unlocked
deriving DecidableEq, Repr

/-- R17: the lamp command of a seat entry. -/
inductive Lamp where
  | off | waiting | live | warning | priority | fault
deriving DecidableEq, Repr

/-- R161: the reason codes, in the order in which they are numbered from 01h. -/
inductive Reason where
  | unknownKind | badLength | badValue | overrun | agendaFull | nothingStaged | floorClosed | floorHeld | trunkDown
  | noChannel | notEligible | notFound | listFull | noRoom | noTimer | notAdmitted | flagged | withdrawn | expired
  | revoked | displaced | cancelled | itemChange | closed | flushed | seatLost | disabled | unitFault | escalated
  | priorityClear | truncated | removed
deriving DecidableEq, Repr

/-- R151: the sense of a mismatch. -/
inductive Sense where
  /-- Commanded open and reported closed. -/
  | reportedClosed
  /-- Commanded closed and reported open. -/
  | reportedOpen
deriving DecidableEq, Repr

/-! ## Per seat: the seat table entry (R18) and the seat status record (chapter 2, section 2.4) -/

/-- R36: one key's accepted level and agree count. -/
structure KeyState where
  /-- The accepted level is held. -/
  held : Bool
  /-- Agree count, 0 to 7. -/
  agree : Nat
deriving DecidableEq, Repr

/-- R36: the four keys of a seat. -/
structure Keys where
  talk : KeyState
  priority : KeyState
  next : KeyState
  cancel : KeyState
deriving DecidableEq, Repr

/-- R6: the down half of a seat entry: a lamp command and a channel command. -/
structure Command where
  lamp : Lamp
  chan : Option Chan
deriving DecidableEq, Repr

/-- R18: one entry of the seat table. -/
structure SeatConfig where
  enabled : Bool
  cls : SeatClass
  keyAction : KeyAction
  /-- 0 to 32,768. -/
  level : Nat
deriving DecidableEq, Repr

/-- One seat: its seat table entry and its status, each field with the block that owns it. -/
structure Seat where
  /-- Seat table (R18). -/
  config : SeatConfig
  /-- Seat monitor (R27). -/
  present : Bool
  /-- Seat monitor: unanswered returned sweeps in a row, 0 to 249 (R27). -/
  silence : Nat
  /-- Key filter: accepted levels and agree counts (R36). -/
  keys : Keys
  /-- Key filter: priority armed mark (R36, R46). -/
  armed : Bool
  /-- Key filter: lockout remaining, 0 to 250 sweep intervals (R36, R49). -/
  lockout : Nat
  /-- Floor arbiter: the seat's floor state (R73). -/
  place : Place
  /-- Floor arbiter: bound channel (R73). -/
  bound : Option Chan
  /-- Conformance audit: mismatch count, 0 to 15 (R151). -/
  mismatch : Nat
  /-- Conformance audit: pending mark with its sense (R151). -/
  pendingSense : Option Sense
  /-- Conformance audit: flagged mark (R151). -/
  flagged : Bool
  /-- Sweep engine: last command sent (R7). -/
  lastSent : Command
  /-- Sweep engine: command in flight (R7). -/
  inFlight : Command
deriving DecidableEq, Repr

/-! ## Agenda, channels, gains, settings -/

/-- R53: a subset of the four classes. -/
structure ClassSet where
  delegate : Bool
  chair : Bool
  guest : Bool
  observer : Bool
deriving DecidableEq, Repr

/-- R53: a context record, as stored after the clamps of R54. -/
structure Context where
  item : Nat
  mode : Mode
  maxLive : Nat
  listLimit : Nat
  admitted : ClassSet
  chairFirst : Bool
  /-- Speaking time in seconds, 0 meaning untimed. -/
  limit : Nat
  chairTimed : Bool
  /-- Warning lead in seconds, 0 meaning no warning. -/
  warningLead : Nat
  expiry : Expiry
  batch : Nat
  duckDepth : Nat
  priorityEnd : PriorityEnd
  suspendWhileHeld : Bool
  carryFloor : Bool
deriving DecidableEq, Repr

/-- R74: an entry of the waiting list. -/
structure WaitEntry where
  seat : Nat
  /-- Request sweep number, 0 to 65,535. -/
  sweep : Nat
deriving DecidableEq, Repr

/-- R77: an entry of the speaker list. -/
structure Speaker where
  chan : Chan
  seat : Nat
deriving DecidableEq, Repr

/-- R102: a channel record. The grant kind belongs to the channel and does not change: PRIORITY for P, ORDINARY for the
others, so it is read off the channel's name (DEDUCED, log entry 18). -/
structure Channel where
  state : ChanState
  seat : Option Nat
  /-- Remaining sweep intervals, 0 to 1,800,000; `none` is untimed. -/
  remaining : Option Nat
  warned : Bool
  /-- Held count, 0 to 32,767,500 sweep intervals. -/
  held : Nat
deriving DecidableEq, Repr

/-- R137: the current gain G and the target T of a channel. -/
structure Gain where
  current : Nat
  target : Nat
deriving DecidableEq, Repr

/-- One value for each of the nine channels. -/
structure PerChan (α : Type) where
  c1 : α
  c2 : α
  c3 : α
  c4 : α
  c5 : α
  c6 : α
  c7 : α
  c8 : α
  p : α
deriving DecidableEq, Repr

/-- R168: the settings in force. -/
structure Settings where
  /-- Key filter depth K: 1, 2, 4 or 8 (R37). -/
  filterDepth : Nat
  /-- Presence timeout, 2 to 250 (R30). -/
  presenceTimeout : Nat
  /-- Audit tolerance, 1 to 15 (R153). -/
  auditTolerance : Nat
  /-- Ramp length L: 32, 64, 128, 256 or 512 frames (R141). -/
  rampLength : Nat
  /-- Lockout setting, 0 to 250 (R49). -/
  lockout : Nat
  agendaEmpty : AgendaEmpty
  /-- Notice mask: bit i enables group i of R167; bits 6 and 7 are 0. -/
  noticeMask : Byte
deriving DecidableEq, Repr

/-! ## Messages -/

/-- R166, R167: the notices, each with its fields in the order the manual gives them. -/
inductive Notice where
  | granted (seat : Nat) (chan : Chan) (fromList : Bool)
  | ended (seat : Nat) (chan : Chan) (reason : Reason) (duration : Nat)
  | heldBy (seat : Nat)
  | resumed (seat : Nat) (priorityEnd : PriorityEnd)
  | queued (seat : Nat) (position : Nat)
  | dequeued (seat : Nat) (reason : Reason)
  | denied (seat : Nat) (reason : Reason)
  | warning (seat : Nat) (chan : Chan) (remaining : Nat)
  | timeOver (seat : Nat) (chan : Chan)
  | seatFound (seat : Nat)
  | seatLost (seat : Nat)
  | discrepancy (seat : Nat) (sense : Sense)
  | trunkUp (sweep : Nat)
  | trunkDown (sweep : Nat)
  | itemChanged (item : Nat) (mode : Mode)
  | floorClosed (item : Nat) (reason : Reason)
  | noticesLost (lost : Nat)
deriving DecidableEq, Repr

/-- R168: a decoded SET_GENERAL record: the settings, and the rotation start when load rotation is yes. -/
structure GeneralRecord where
  settings : Settings
  rotation : Option Nat
deriving DecidableEq, Repr

/-- R162: a directive whose decoding passed, with its fields clamped. -/
inductive Directive where
  | loadSeats (first : Nat) (entries : List SeatConfig)
  | readSeats (first count : Nat)
  | setGeneral (record : GeneralRecord)
  | stageItem (context : Context)
  | advanceItem
  | flushAgenda
  | grant (seat : Nat)
  | revoke (seat : Nat)
  | enqueue (seat position : Nat)
  | remove (seat : Nat)
  | next
  | cancelAll
  | extend (seat seconds : Nat)
  | clearFlag (selector : Nat)
  | readFloor
  | restart
deriving DecidableEq, Repr

/-- R162: what decoding makes of a complete message. -/
inductive Decoded where
  | refused (reason : Reason)
  | accepted (directive : Directive)
deriving DecidableEq, Repr

/-- R163: an entry of the input buffer. -/
structure Entry where
  kind : Byte
  tag : Byte
  /-- The body length as the header gave it. -/
  len : Byte
  /-- A skip entry, of the three header bytes alone. -/
  skip : Bool
  /-- The body bytes kept so far, in arrival order. -/
  body : List Byte
  /-- The last byte of the message has arrived (R161). -/
  complete : Bool
  /-- The outcome of decoding, once it has been made (R162). -/
  decoded : Option Decoded
deriving DecidableEq, Repr

/-- R163: where the body bytes of the arriving message go. -/
inductive BodyUse where
  /-- The message is kept whole: its bytes join the buffer's last entry. -/
  | whole
  /-- The message is skipped: its bytes are dropped and the buffer's last entry is its skip entry. -/
  | skip
  /-- The message has no entry: its bytes are counted off and dropped. -/
  | drop
deriving DecidableEq, Repr

/-- R161: the position in the incoming stream. -/
inductive RxPos where
  | between
  /-- One to three header bytes have arrived. `discard` marks a message cut by RESTART (R170). -/
  | header (got : List Byte) (discard : Bool)
  /-- `left` body bytes are still to be counted off. -/
  | body (left : Nat) (use : BodyUse)
deriving DecidableEq, Repr

/-- R169: one seat record of a READ_SEATS reply. -/
structure SeatRecord where
  config : SeatConfig
  present : Bool
  flagged : Bool
  pending : Bool
  place : Place
  bound : Option Chan
  mismatch : Nat
deriving DecidableEq, Repr

/-- R169: one channel record of a READ_FLOOR reply. -/
structure ChanRecord where
  state : ChanState
  seat : Option Nat
  /-- Tenths of a second, or `none` for untimed. -/
  remaining : Option Nat
deriving DecidableEq, Repr

/-- R169: the floor as a READ_FLOOR reply shows it. -/
structure FloorReport where
  floor : Floor
  item : Nat
  count : Nat
  trunk : TrunkState
  channels : PerChan ChanRecord
  waiting : List WaitEntry
deriving DecidableEq, Repr

/-- R161: the body of a reply. -/
inductive ReplyBody where
  | refused (reason : Reason)
  /-- ACCEPTED to SET_GENERAL, REMOVE and RESTART: no field. -/
  | done
  | seatsLoaded (first count : Nat)
  | seatsRead (first count : Nat) (records : List SeatRecord)
  /-- ACCEPTED to STAGE_ITEM and ENQUEUE. -/
  | position (position : Nat)
  | entriesLeft (n : Nat)
  | contextsDropped (n : Nat)
  | granted (chan : Chan) (fromList : Bool)
  | revoked (result : Reason)
  | grantsMade (n : Nat)
  | cancelled (ended removed : Nat)
  | extended (chan : Chan) (remaining : Nat)
  | flagsCleared (n : Nat)
  | floorRead (report : FloorReport)
deriving DecidableEq, Repr

/-- R164: a reply, with the tag of the directive it answers. -/
structure Reply where
  tag : Byte
  body : ReplyBody
deriving DecidableEq, Repr

/-- R165, R170: where the message being sent came from. -/
inductive SendSource where
  | reply
  | notice
  /-- Cut off from the queues by RESTART: its completion removes no entry. -/
  | apart
deriving DecidableEq, Repr

/-- R165: the message being sent and the bytes of it not yet sent. -/
structure Sending where
  source : SendSource
  rest : List Byte
deriving DecidableEq, Repr

/-! ## The chain -/

/-- R8: the scan of trunk-return for the awaited sweep's candidate record. -/
inductive Scan where
  /-- No marker has been met since the awaited sweep's emission. -/
  | seeking
  /-- The candidate's bytes so far, latest first. -/
  | taking (got : List Byte)
  /-- The candidate is over for this interval; `left` of its byte positions have still to pass. -/
  | finished (left : Nat)
  /-- A record whose first byte came before the awaited sweep's emission: `left` of its positions have still to pass. -/
  | passing (left : Nat)
deriving DecidableEq, Repr

/-- R9: what is read from the up half of one returned seat entry. -/
structure UpHalf where
  answered : Bool
  live : Bool
  talk : Bool
  priority : Bool
  next : Bool
  cancel : Bool
deriving DecidableEq, Repr

/-- R51: the raw material of a key action, in a seat's order of presentation. -/
inductive KeyEvent where
  /-- A PRIORITY release edge accepted while the armed mark was yes (R46). -/
  | priorityRelease
  /-- A TALK edge: press or release. -/
  | talk (press : Bool)
  /-- A NEXT press edge. -/
  | nextPress
  /-- A CANCEL press edge. -/
  | cancelPress
  /-- The PRIORITY level stands held and armed (R46). -/
  | priorityLevel
deriving DecidableEq, Repr

/-- R51: one place in the presentation order of a returned sweep. -/
structure KeySlot where
  seat : Nat
  event : KeyEvent
deriving DecidableEq, Repr

/-- R51: what is left of the presentation of one returned sweep's actions. -/
structure Presentation where
  /-- The number of the returned sweep (R74). -/
  sweep : Nat
  slots : List KeySlot
deriving DecidableEq, Repr

/-- R152: one answered seat of a returned sweep, as the audit compares it. -/
structure AuditEntry where
  seat : Nat
  commandedOpen : Bool
  reportedOpen : Bool
deriving DecidableEq, Repr

/-- R8: a record that came back complete with the number emitted. -/
structure ReturnedSweep where
  sweep : Nat
  ups : List UpHalf
deriving DecidableEq, Repr

/-- R16: a record that a RESTART discarded before it had been met on trunk-return. -/
structure Discarded where
  /-- The sweep number its header bears. -/
  number : Nat
  /-- The bytes of it that trunk-out frames carried before the RESTART. -/
  bytes : Nat
deriving DecidableEq, Repr

/-- The model's own: the steps an earlier step has made due and that are steps of the table themselves. -/
structure Owed where
  /-- HEAD_LINK_UNLOCK: a frame period has passed without an in-step head frame while LOCKED (R13). -/
  unlock : Bool
  /-- BLINK_PHASE_TOGGLE: an emission found the blink count at 124 (R5). -/
  blink : Bool
  /-- LOCKOUT_EXPIRY: seats whose lockout this interval start brings to 0 (R49). -/
  lockouts : List Nat
  /-- EXPIRED or TIME_OVER: channels whose decrement of this interval start brings the timer to 0 (R117, R118). -/
  timers : List Chan
  /-- LOST_SWEEP, or TRUNK_DOWN where it is the 25th in a row: the number of a sweep not returned when the next was emitted
  (R10, R11). -/
  lostSweep : Option Nat
  /-- SWEEP_RETURNED: the record that came back (R8). -/
  returned : Option ReturnedSweep
  /-- REQUEST to PRIORITY_RELEASED: the key actions of the returned sweep not yet presented (R51). -/
  actions : Option Presentation
  /-- SEAT_LOST: seats whose silence count this sweep brings to the presence timeout (R29). -/
  losses : List Nat
  /-- AUDIT_SWEEP: the answered entries of the returned sweep (R152). -/
  audit : Option (List AuditEntry)
  /-- CHANNEL_FREED: RELEASING channels reported at gain 0 (R144). -/
  freed : List Chan
deriving DecidableEq, Repr

/-- The state of the part. -/
structure State where
  /-- Trunk interface: the trunk state (R11). -/
  trunk : TrunkState
  /-- Trunk interface: lost-sweep run count, 0 to 25 (R11). -/
  lostRun : Nat
  /-- Trunk interface: the number of the sweep whose return is awaited (R8). -/
  awaiting : Option Nat
  /-- Trunk interface: the scan of trunk-return (R8). -/
  scan : Scan
  /-- Trunk interface: the records that RESTARTs discarded and that have not been met on trunk-return, oldest first (R16). -/
  discarded : List Discarded
  /-- Trunk interface: frame periods of the current interval that have passed; 96 when the next interval is due (R4). -/
  frame : Nat
  /-- Trunk interface: record bytes of the current sweep not yet placed in a trunk frame (R4). -/
  stream : List Byte
  /-- Sweep engine: the current outbound sweep number, 0 to 65,535 (R5). -/
  sweepNumber : Nat
  /-- Sweep engine: the number most recently emitted, 0 if none since reset (R74). -/
  lastEmitted : Nat
  /-- Sweep engine: blink count, 0 to 124 (R5). -/
  blinkCount : Nat
  /-- Sweep engine: the blink phase is ON (R5). -/
  blinkOn : Bool
  /-- Head interface: the head link state (R13). -/
  link : LinkState
  /-- Head interface: lock count, 0 to 48 (R13). -/
  lockCount : Nat
  /-- Head interface: program samples A and B of the last head frame, for the next trunk frame (R2). -/
  program : Sample × Sample
  /-- The 200 seats, seat 1 first. -/
  seats : List Seat
  /-- Agenda unit: the agenda queue, the active context first (R56). -/
  agenda : List Context
  /-- Floor arbiter: the floor state (R72). -/
  floor : Floor
  /-- Floor arbiter: the waiting list, head first (R74). -/
  waiting : List WaitEntry
  /-- Floor arbiter: the speaker list, oldest grant first (R77). -/
  speakers : List Speaker
  /-- Floor arbiter: the rotation pointer, 1 to 200 (R79). -/
  rotation : Nat
  /-- Channel unit: the nine channel records (R102). -/
  channels : PerChan Channel
  /-- Gain stage: the nine gains and targets (R137). -/
  gains : PerChan Gain
  /-- Conformance audit: the cursor, 0 to 200 (R151). -/
  cursor : Nat
  /-- Message unit: the position in the incoming stream (R161). -/
  rx : RxPos
  /-- Message unit: the directive input buffer, oldest entry first (R163). -/
  buffer : List Entry
  /-- Message unit: the reply queue, oldest first (R164). -/
  replies : List Reply
  /-- Message unit: the notice queue, oldest first (R166). -/
  notices : List Notice
  /-- Message unit: the overrun mark (R166). -/
  overrun : Bool
  /-- Message unit: the lost count, 0 to 65,535 (R166). -/
  lostCount : Nat
  /-- Message unit: the message being sent (R165). -/
  sending : Option Sending
  /-- Message unit: the settings (R168). -/
  settings : Settings
  /-- Trunk-out port: the 45 bytes of the last trunk frame emitted, empty before the first (R17). -/
  trunkOut : List Byte
  /-- Head port: the 33 bytes of the last head frame sent, empty before the first (R17). -/
  headOut : List Byte
  /-- The model's own: the steps that are due. -/
  owed : Owed
  /-- The model's own: the commands that wait, first in first out. -/
  pending : List Instr
deriving DecidableEq, Repr

/-- Why the part would stop with a fault. The manual gives every event of the part an effect, so no meaning raises one;
the type is there for the host's interface. -/
inductive Fault where
  /-- Raised by nothing. Safe. -/
  | neverRaised
deriving DecidableEq, Repr

/-- Why the model would refuse a command. -/
inductive Refusal where
  /-- Raised only by an arm of `exec` whose command has no meaning yet (there is none left). Safe: the run stops. -/
  | notModelled (mnemonic : String)
deriving DecidableEq, Repr

/-! ## Reset -/

/-- R36: a key after reset: released, agree count 0. -/
def KeyState.reset : KeyState := { held := false, agree := 0 }

/-- R36: the four keys after reset and after an absence. -/
def Keys.reset : Keys :=
  { talk := KeyState.reset, priority := KeyState.reset, next := KeyState.reset, cancel := KeyState.reset }

/-- R7: the command of every seat after reset, OFF/none. -/
def Command.off : Command := { lamp := .off, chan := none }

/-- R18: a seat table entry after reset. -/
def SeatConfig.reset : SeatConfig :=
  { enabled := false, cls := .delegate, keyAction := .push, level := Config.unity }

/-- R18, R27, R36, R73, R151, R7: a seat after reset. -/
def Seat.reset : Seat :=
  { config := SeatConfig.reset, present := false, silence := 0, keys := Keys.reset, armed := false, lockout := 0,
    place := .idle, bound := none, mismatch := 0, pendingSense := none, flagged := false,
    lastSent := Command.off, inFlight := Command.off }

/-- R102: a channel after reset. -/
def Channel.reset : Channel :=
  { state := .free, seat := none, remaining := none, warned := false, held := 0 }

/-- R137: a gain after reset. -/
def Gain.reset : Gain := { current := 0, target := 0 }

/-- The same value on all nine channels. -/
def PerChan.all {α : Type} (a : α) : PerChan α :=
  { c1 := a, c2 := a, c3 := a, c4 := a, c5 := a, c6 := a, c7 := a, c8 := a, p := a }

/-- R168: the settings after reset. -/
def Settings.reset : Settings :=
  { filterDepth := 2, presenceTimeout := 50, auditTolerance := 4, rampLength := 64, lockout := 100,
    agendaEmpty := .keep, noticeMask := 0x3F#8 }

/-- Nothing is due. -/
def Owed.reset : Owed :=
  { unlock := false, blink := false, lockouts := [], timers := [], lostSweep := none,
    returned := none, actions := none, losses := [], audit := none, freed := [] }

/-- The part after pin reset: every field at the value its chapter gives.
The ports' latches `program`, `trunkOut` and `headOut` hold nothing yet: samples 0, no frame (DESIGN CHOICE, log
entry 10). -/
def State.reset : State :=
  { trunk := .down, lostRun := 0, awaiting := none, scan := .seeking, discarded := [],
    frame := Config.framesPerInterval, stream := [],
    sweepNumber := 0, lastEmitted := 0, blinkCount := 0, blinkOn := true,
    link := .unlocked, lockCount := 0, program := (0, 0),
    seats := List.replicate Config.seatCount Seat.reset,
    agenda := [], floor := .closed, waiting := [], speakers := [], rotation := 1,
    channels := PerChan.all Channel.reset, gains := PerChan.all Gain.reset, cursor := 0,
    rx := .between, buffer := [], replies := [], notices := [], overrun := false, lostCount := 0, sending := none,
    settings := Settings.reset, trunkOut := [], headOut := [], owed := Owed.reset, pending := [] }

end Sys2Proof.Machine
end

