-- ==== Sys2Proof/Machine/Ops.lean ====
section
/-! DEFINITION. The named reads and updates of the state that every meaning is written over: channels by name, seats by
number, the active context, the queues of the message unit.
The floor arbiter's and the channel unit's shared operations (Grant, End, fill) stand in Machine/Arbiter.lean. -/

namespace Sys2Proof

/-- R102: the grant kind of channel P is PRIORITY, that of every other channel ORDINARY. -/
def Chan.isOrdinary (c : Chan) : Bool := c != .p

/-- R161: the code of a channel, 01h to 08h and 09h for P. -/
def Chan.code : Chan → Nat
  | .c1 => 1
  | .c2 => 2
  | .c3 => 3
  | .c4 => 4
  | .c5 => 5
  | .c6 => 6
  | .c7 => 7
  | .c8 => 8
  | .p => 9

end Sys2Proof

namespace Sys2Proof.Machine

/-! ## Channels by name -/

/-- The record of channel `c`. -/
def PerChan.get {α : Type} (t : PerChan α) : Chan → α
  | .c1 => t.c1
  | .c2 => t.c2
  | .c3 => t.c3
  | .c4 => t.c4
  | .c5 => t.c5
  | .c6 => t.c6
  | .c7 => t.c7
  | .c8 => t.c8
  | .p => t.p

/-- `t` with the record of channel `c` replaced. -/
def PerChan.set {α : Type} (t : PerChan α) (c : Chan) (a : α) : PerChan α :=
  match c with
  | .c1 => { t with c1 := a }
  | .c2 => { t with c2 := a }
  | .c3 => { t with c3 := a }
  | .c4 => { t with c4 := a }
  | .c5 => { t with c5 := a }
  | .c6 => { t with c6 := a }
  | .c7 => { t with c7 := a }
  | .c8 => { t with c8 := a }
  | .p => { t with p := a }

/-- One value per channel, each from the channel's name. -/
def PerChan.tabulate {α : Type} (f : Chan → α) : PerChan α :=
  { c1 := f .c1, c2 := f .c2, c3 := f .c3, c4 := f .c4, c5 := f .c5, c6 := f .c6, c7 := f .c7, c8 := f .c8, p := f .p }

/-- The nine values in channel order, 1 to 8 and then P. -/
def PerChan.toList {α : Type} (t : PerChan α) : List α := [t.c1, t.c2, t.c3, t.c4, t.c5, t.c6, t.c7, t.c8, t.p]

/-- The ordinary channels in ascending order (00_scope 0.6). -/
def ordinaryChans : List Chan := [.c1, .c2, .c3, .c4, .c5, .c6, .c7, .c8]

/-- All nine channels, 1 to 8 and then P. -/
def allChans : List Chan := [.c1, .c2, .c3, .c4, .c5, .c6, .c7, .c8, .p]

/-- The record of channel `c`. -/
def State.chan (s : State) (c : Chan) : Channel := s.channels.get c

/-- `s` with the record of channel `c` replaced. -/
def State.setChan (s : State) (c : Chan) (r : Channel) : State := { s with channels := s.channels.set c r }

/-- The gain and target of channel `c`. -/
def State.gain (s : State) (c : Chan) : Gain := s.gains.get c

/-! ## Seats by number -/

/-- The seat numbers, ascending. -/
def seatNumbers : List Nat := List.range' 1 Config.seatCount

/-- Seat `n`. A number outside 1 to 200 names no seat and reads as a seat nobody has enabled or heard
(DESIGN CHOICE, log entry 17). -/
def State.seat (s : State) : Nat → Seat
  | 0 => Seat.reset
  | n + 1 => s.seats.getD n Seat.reset

/-- `s` with seat `n` changed by `f`. A number that names no seat changes nothing. -/
def State.updSeat (s : State) (n : Nat) (f : Seat → Seat) : State :=
  match n with
  | 0 => s
  | k + 1 => { s with seats := s.seats.modify k f }

/-- R73: the seat's floor state and bound channel are set together. -/
def State.setPlace (s : State) (n : Nat) (place : Place) (bound : Option Chan) : State :=
  s.updSeat n fun t => { t with place := place, bound := bound }

/-- The class of seat `n` in the seat table, read where it is used (R19). -/
def State.classOf (s : State) (n : Nat) : SeatClass := (s.seat n).config.cls

/-- Seat `n` is CHAIR. -/
def State.isChair (s : State) (n : Nat) : Bool := s.classOf n == .chair

/-! ## The active context -/

/-- R55, R56: the active context is the head of the agenda queue. -/
def State.active (s : State) : Option Context := s.agenda.head?

/-- R53: the class belongs to the set. -/
def ClassSet.admits (a : ClassSet) : SeatClass → Bool
  | .delegate => a.delegate
  | .chair => a.chair
  | .guest => a.guest
  | .observer => a.observer

/-- R74: the capacity of the waiting list under a context, 0 under DIRECT whatever is stored. -/
def Context.capacity (c : Context) : Nat := if c.mode = .direct then 0 else c.listLimit

/-- R65, R105: the allowance a context gives an ordinary grant to a seat of this class, in sweep intervals, or `none`
for an untimed grant. -/
def Context.allowance (c : Context) (cls : SeatClass) : Option Nat :=
  if c.limit = 0 then none
  else if cls = .chair ∧ c.chairTimed = false then none
  else some (c.limit * Config.intervalsPerSecond)

/-- R65, R105, R116: remaining stands at or below a lead above 0. -/
def Context.atLead (c : Context) (remaining : Nat) : Bool :=
  0 < c.warningLead && remaining ≤ c.warningLead * Config.intervalsPerSecond

/-! ## The owed steps -/

/-- `s` with its owed steps replaced. -/
def State.setOwed (s : State) (o : Owed) : State := { s with owed := o }

/-! ## The reply queue -/

/-- R164: a reply joins the reply queue. -/
def State.reply (s : State) (tag : Byte) (body : ReplyBody) : State :=
  { s with replies := s.replies ++ [{ tag := tag, body := body }] }

end Sys2Proof.Machine
end

