-- ==== Sys2Proof/Machine/Flags.lean ====
section
/-! DEFINITION. The part's marks and their conditions: the notice mask, the overrun mark and the lost count (R166, R167),
eligibility (R80) and room (R78). -/

namespace Sys2Proof.Machine

/-! ## Notices -/

/-- R167: the mask bit of the notice's group, or `none` for a notice that belongs to no group. -/
def Notice.group : Notice → Option Nat
  | .granted .. | .ended .. | .heldBy .. | .resumed .. => some 0
  | .queued .. | .dequeued .. => some 1
  | .denied .. => some 2
  | .warning .. | .timeOver .. => some 3
  | .seatFound .. | .seatLost .. => some 4
  | .discrepancy .. => some 5
  | .trunkUp .. | .trunkDown .. | .itemChanged .. | .floorClosed .. | .noticesLost .. => none

/-- R167: the notice's group is enabled, or it belongs to none. -/
def Settings.enables (m : Settings) (n : Notice) : Bool :=
  match n.group with
  | none => true
  | some g => m.noticeMask.getLsbD g

/-- R166: a notice is raised: not queued when its group is masked; appended when the queue holds fewer than 32;
discarded and counted otherwise. -/
def State.raise (s : State) (n : Notice) : State :=
  if s.settings.enables n then
    if s.notices.length < Config.noticeMax then { s with notices := s.notices ++ [n] }
    else { s with overrun := true, lostCount := min (s.lostCount + 1) Config.wordMax }
  else s

/-- R166: the oldest notice leaves the queue, having been sent.
If the overrun mark is yes, NOTICES_LOST takes the room it made and the mark and the count are cleared. -/
def State.departNotice (s : State) : State :=
  if s.overrun then
    { s with notices := s.notices.tail ++ [.noticesLost s.lostCount], overrun := false, lostCount := 0 }
  else { s with notices := s.notices.tail }

/-! ## Conditions of the floor -/

/-- R80: the seat's class is admitted by the active context. -/
def State.admitted (s : State) (n : Nat) : Bool :=
  match s.active with
  | none => false
  | some c => c.admitted.admits (s.classOf n)

/-- R80: the seat is enabled, present, not flagged and of an admitted class. -/
def State.eligible (s : State) (n : Nat) : Bool :=
  (s.seat n).config.enabled && (s.seat n).present && !(s.seat n).flagged && s.admitted n

/-- R46, R124: the seat is enabled, present, of class CHAIR and not flagged. -/
def State.entitledChair (s : State) (n : Nat) : Bool :=
  (s.seat n).config.enabled && (s.seat n).present && !(s.seat n).flagged && s.isChair n

/-- R78: the lowest-numbered FREE ordinary channel. -/
def State.freeOrdinary (s : State) : Option Chan := ordinaryChans.find? fun c => (s.chan c).state == .free

/-- R78: the speaker list holds fewer entries than the active context's max live. -/
def State.belowMaxLive (s : State) : Bool :=
  match s.active with
  | none => false
  | some c => s.speakers.length < c.maxLive

/-- R78: the channel an ordinary grant would take, or `none` when there is no room. -/
def State.room (s : State) : Option Chan := if s.belowMaxLive then s.freeOrdinary else none

end Sys2Proof.Machine
end

