-- ==== Sys2Proof/Machine/Arbiter.lean ====
section
/-! DEFINITION. The operations the floor arbiter and the channel unit share: Grant (R104), End (R107), the waiting list
(R75, R76), fill and next (R88, R90), cancel (R92), displacement (R85), the priority intervention (R125, R131) and the floor's
response to a trunk break (R98).
Each is taken whole (R100): it is one function of the state. -/

namespace Sys2Proof.Machine

/-! ## The waiting list -/

/-- R76: the entry of seat `n` leaves the list without being granted: the seat is IDLE and DEQUEUED is raised. -/
def State.removeWaiting (s : State) (n : Nat) (r : Reason) : State :=
  ({ s with waiting := s.waiting.filter fun e => e.seat != n }.setPlace n .idle none).raise (.dequeued n r)

/-- Every waiting entry leaves with reason `r`, head first. -/
def State.clearWaiting (s : State) (r : Reason) : State :=
  s.waiting.foldl (fun s e => s.removeWaiting e.seat r) s

/-- R75: the seat joins the list so that `i` entries stand before it: it is WAITING and QUEUED is raised with its position
counted from 1. -/
def State.insertWaiting (s : State) (n sweep i : Nat) : State :=
  ({ s with waiting := s.waiting.insertIdx i { seat := n, sweep := sweep } }.setPlace n .waiting none).raise
    (.queued n (i + 1))

/-- R75: the number of entries that stand before a joining seat: with chair first yes a CHAIR joins directly after the last
CHAIR entry, or at the head if there is none; otherwise the seat joins at the tail. -/
def State.joinIndex (s : State) (c : Context) (n : Nat) : Nat :=
  if c.chairFirst && s.isChair n then
    s.waiting.length - (s.waiting.reverse.takeWhile fun e => !s.isChair e.seat).length
  else s.waiting.length

/-- R75: a request that is to join the list meets its capacity first. -/
def State.joinList (s : State) (c : Context) (n sweep : Nat) : State :=
  if c.capacity = 0 then s.raise (.denied n .noRoom)
  else if s.waiting.length < c.capacity then s.insertWaiting n sweep (s.joinIndex c n)
  else s.raise (.denied n .listFull)

/-! ## Grant -/

/-- R105: the remaining time of a grant of `c` to seat `n`, `none` when the grant is untimed. -/
def State.grantTime (s : State) (c : Chan) (n : Nat) : Option Nat :=
  match s.active with
  | none => none
  | some ctx => if c.isOrdinary then ctx.allowance (s.classOf n) else none

/-- R105: the grant is made warned. -/
def State.grantWarned (s : State) (c : Chan) (n : Nat) : Bool :=
  match s.active, s.grantTime c n with
  | some ctx, some r => ctx.atLead r
  | _, _ => false

/-- R104, step 3: an ordinary channel and its seat join the speaker list at the tail. -/
def State.appendSpeaker (s : State) (c : Chan) (n : Nat) : State :=
  if c.isOrdinary then { s with speakers := s.speakers ++ [{ chan := c, seat := n }] } else s

/-- R104, step 5: a grant made warned raises WARNING. -/
def State.raiseGrantWarning (s : State) (c : Chan) (n : Nat) (time : Option Nat) (warned : Bool) : State :=
  match time with
  | none => s
  | some r => if warned then s.raise (.warning n c (r / Config.intervalsPerTenth)) else s

/-- R104: the Grant of FREE channel `c` to seat `n`. -/
def State.grant (s : State) (c : Chan) (n : Nat) (fromList : Bool) : State :=
  let time := s.grantTime c n
  let warned := s.grantWarned c n
  let s1 := s.setChan c { state := .live, seat := some n, remaining := time, warned := warned, held := 0 }
  let s2 := (s1.setPlace n .live (some c)).appendSpeaker c n
  (s2.raise (.granted n c fromList)).raiseGrantWarning c n time warned

/-! ## End -/

/-- R108: the duration of a held count, in tenths of a second, capped at 65,535. -/
def duration (held : Nat) : Nat := min (held / Config.intervalsPerTenth) Config.wordMax

/-- R48: the seat's lockout is loaded with the lockout setting in force, in place of any it had.
A decrement to 0 that this interval start still owes the old lockout falls away with it. -/
def State.loadLockout (s : State) (n : Nat) : State :=
  (s.updSeat n fun t => { t with lockout := s.settings.lockout }).setOwed
    { s.owed with lockouts := s.owed.lockouts.filter fun m => m != n }

/-- R107, step 2: the timer of `c` stops, and with it a decrement this interval start still owes it. -/
def State.stopTimer (s : State) (c : Chan) : State :=
  s.setOwed { s.owed with timers := s.owed.timers.filter fun d => d != c }

/-- R107, step 3: the entry of an ordinary channel leaves the speaker list and the entries behind it close up. -/
def State.removeSpeaker (s : State) (c : Chan) : State :=
  if c.isOrdinary then { s with speakers := s.speakers.filter fun e => e.chan != c } else s

/-- R107, steps 1 to 5: the End of LIVE channel `c`, held by seat `n`, with reason `r`.
Step 6 is the arbiter's (R109) and stands in the operations that call this. -/
def State.release (s : State) (c : Chan) (n : Nat) (r : Reason) : State :=
  let held := (s.chan c).held
  let s1 := (s.setChan c { state := .releasing, seat := none, remaining := none, warned := false, held := held }).stopTimer c
  let s2 := (s1.setPlace n .idle none).removeSpeaker c
  let s3 := if r = .withdrawn then s2 else s2.loadLockout n
  s3.raise (.ended n c r (duration held))

/-- Every ordinary grant is released with reason `r`, oldest first, with no fill between (R61, R67, R68). -/
def State.releaseSpeakers (s : State) (r : Reason) : State :=
  s.speakers.foldl (fun s e => s.release e.chan e.seat r) s

/-! ## Fill and next -/

/-- R88, R90: up to `k` entries are granted from the head of the waiting list while there is room. -/
def State.grantHeads : Nat → State → State
  | 0, s => s
  | k + 1, s =>
    match s.waiting, s.room with
    | e :: rest, some c => grantHeads k ({ s with waiting := rest }.grant c e.seat true)
    | _, _ => s

/-- R88: the active mode fills, QUEUED or OVERRIDE, and the floor is OPEN. -/
def State.fills (s : State) : Bool :=
  match s.active with
  | none => false
  | some c => s.floor == .opened && (c.mode == .queued || c.mode == .override)

/-- R88: fill. -/
def State.fill (s : State) : State := if s.fills then State.grantHeads s.waiting.length s else s

/-! ## Ends with their completion (R109) -/

/-- R109: the End of an ordinary grant, followed by fill. -/
def State.endOrdinary (s : State) (c : Chan) (n : Nat) (r : Reason) : State := (s.release c n r).fill

/-- Every ordinary grant ends with reason `r`, oldest first, each End with its fill (R92, R98, R132).
Under CLEAR the GRANTED of a fill therefore stands between two of the ENDED notices, as R131 and R132 have it; R156's list of a report's
notices, read by itself, has all the ENDED notices of a CLEAR before the GRANTED ones (DEDUCED, log entry 35). -/
def State.endSpeakers (s : State) (r : Reason) : State :=
  s.speakers.foldl (fun s e => s.endOrdinary e.chan e.seat r) s

/-- R132: the active context's priority end is applied. -/
def State.applyPriorityEnd (s : State) (e : PriorityEnd) : State :=
  match e with
  | .resume => s
  | .clear => s.endSpeakers .priorityClear

/-- R131: the intervention of seat `n` ends: the floor is OPEN, RESUMED is raised, the priority end is applied, fill runs. -/
def State.endIntervention (s : State) (n : Nat) : State :=
  match s.active with
  | none => { s with floor := .opened }
  | some c => (({ s with floor := .opened }.raise (.resumed n c.priorityEnd)).applyPriorityEnd c.priorityEnd).fill

/-- R109, R131: the End of channel P with what completes it. -/
def State.endPriority (s : State) (n : Nat) (r : Reason) : State := (s.release .p n r).endIntervention n

/-- R106, R109: the grant of seat `n`, if it has one, ends with reason `r` and is completed as its channel asks. -/
def State.endSeat (s : State) (n : Nat) (r : Reason) : State :=
  match (s.seat n).bound with
  | none => s
  | some .p => s.endPriority n r
  | some c => s.endOrdinary c n r

/-! ## Requests -/

/-- R85, step 2: every ordinary channel outside the speaker list is RELEASING. -/
def State.othersReleasing (s : State) : Bool :=
  ordinaryChans.all fun c => (s.speakers.any fun e => e.chan == c) || (s.chan c).state == .releasing

/-- R85, step 5: into a full list the tail entry leaves first, TRUNCATED; the requester is inserted at the head. -/
def State.insertHead (s : State) (c : Context) (n sweep : Nat) : State :=
  let s1 := if s.waiting.length < c.capacity then s
    else match s.waiting.getLast? with
      | none => s
      | some e => s.removeWaiting e.seat .truncated
  s1.insertWaiting n sweep 0

/-- R85, steps 4 to 6: the requester takes the room the displacement made, or stands at the head of the list; then fill. -/
def State.serveDisplacer (s : State) (c : Context) (n sweep : Nat) : State :=
  match s.room with
  | some ch => (s.grant ch n false).fill
  | none => (s.insertHead c n sweep).fill

/-- R85: an eligible seat's request in OVERRIDE with the floor OPEN and no room. -/
def State.displace (s : State) (c : Context) (n sweep : Nat) : State :=
  match s.speakers.find? fun e => !s.isChair e.seat with
  | none => s.joinList c n sweep
  | some e =>
    if s.othersReleasing && c.listLimit == 0 then s.raise (.denied n .noRoom)
    else (s.release e.chan e.seat .displaced).serveDisplacer c n sweep

/-- R82: an eligible seat's request with the floor OPEN. -/
def State.requestOpen (s : State) (c : Context) (n sweep : Nat) : State :=
  match c.mode, s.room with
  | .direct, some ch => s.grant ch n false
  | .direct, none => s.raise (.denied n .noRoom)
  | .queued, some ch => if s.waiting.isEmpty then s.grant ch n false else s.joinList c n sweep
  | .queued, none => s.joinList c n sweep
  | .moderated, _ => s.joinList c n sweep
  | .override, some ch => s.grant ch n false
  | .override, none => s.displace c n sweep

/-- R83: an eligible seat's request with the floor HELD. -/
def State.requestHeld (s : State) (c : Context) (n sweep : Nat) : State :=
  if c.mode = .direct then s.raise (.denied n .floorHeld) else s.joinList c n sweep

/-- R81 to R83: the arbiter's answer to the request of seat `n` made by the key edge of the returned sweep `sweep`. -/
def State.judgeRequest (s : State) (n sweep : Nat) : State :=
  if s.floor = .closed then s.raise (.denied n .floorClosed)
  else if (s.seat n).flagged then s.raise (.denied n .flagged)
  else if s.eligible n then
    match s.active with
    | none => s
    | some c => if s.floor = .held then s.requestHeld c n sweep else s.requestOpen c n sweep
  else s.raise (.denied n .notAdmitted)

/-- R87: the arbiter's answer to the withdraw of seat `n`. -/
def State.judgeWithdraw (s : State) (n : Nat) : State :=
  match (s.seat n).place with
  | .idle => s
  | .waiting => s.removeWaiting n .withdrawn
  | .live => s.endSeat n .withdrawn

/-! ## Next and cancel -/

/-- R90, R91: what a next does with the floor OPEN: a batch in MODERATED, fill in QUEUED and OVERRIDE, nothing in DIRECT. -/
def State.takeNext (s : State) : State :=
  match s.active with
  | none => s
  | some c =>
    match c.mode with
    | .moderated => State.grantHeads c.batch s
    | .queued => s.fill
    | .override => s.fill
    | .direct => s

/-- R92: every waiting entry leaves and then every ordinary grant ends, all with reason CANCELLED. -/
def State.cancelFloor (s : State) : State := (s.clearWaiting .cancelled).endSpeakers .cancelled

/-! ## The priority intervention -/

/-- R125, step 1: the chair gives up its ordinary grant or its waiting entry. -/
def State.escalate (s : State) (n : Nat) : State :=
  match (s.seat n).place with
  | .idle => s
  | .waiting => s.removeWaiting n .escalated
  | .live => s.endSeat n .escalated

/-- R125: the intervention of chair `n` starts. -/
def State.startPriority (s : State) (n : Nat) : State :=
  { (s.escalate n).grant .p n false with floor := .held }.raise (.heldBy n)

/-- R124: the arbiter's answer to the priority-held of seat `n`. -/
def State.judgePriorityHeld (s : State) (n : Nat) : State :=
  if s.floor = .opened ∧ (s.chan .p).state = .free ∧ s.entitledChair n = true then s.startPriority n else s

/-- R123: seat `n` holds the intervention: channel P is LIVE and bound to it. -/
def State.isHolder (s : State) (n : Nat) : Bool := (s.chan .p).state == .live && (s.chan .p).seat == some n

/-- R130: the arbiter's answer to the priority-released of seat `n`. -/
def State.judgePriorityReleased (s : State) (n : Nat) : State :=
  if s.isHolder n then s.endPriority n .withdrawn else s

/-! ## Seats taken off the floor by other blocks -/

/-- R22, R32: the seats of the list, ascending, leave the floor with reason `r`: first every waiting entry, then every
grant, each with its completion. A seat that an earlier end has already taken off the floor is passed over (R106). -/
def State.takeOff (s : State) (seats : List Nat) (r : Reason) : State :=
  let removals := seats.filter fun n => (s.seat n).place == .waiting
  let ends := seats.filter fun n => (s.seat n).place == .live
  ends.foldl (fun s n => s.endSeat n r) (removals.foldl (fun s n => s.removeWaiting n r) s)

/-- R98, step 3: channel P, if it is LIVE, ends with reason `r`. -/
def State.endHolder (s : State) (r : Reason) : State :=
  match (s.chan .p).state, (s.chan .p).seat with
  | .live, some n => s.endPriority n r
  | _, _ => s

/-- R98: the arbiter's response to a trunk break. -/
def State.breakFloor (s : State) : State :=
  ((s.clearWaiting .trunkDown).endSpeakers .trunkDown).endHolder .trunkDown

end Sys2Proof.Machine
end

