-- ==== Sys2Proof/Machine/Operands.lean ====
section
/-! DEFINITION. What the bytes of the ports spell, both ways: the frames, the sweep record and its entries (R17), and the
bodies of replies and notices (R161, R167, R169).
The bodies of directives are read in Machine/Directives.lean. -/

namespace Sys2Proof.Machine

/-! ## Numbers in bytes -/

/-- A one-byte field. -/
def byteOf (n : Nat) : Byte := BitVec.ofNat 8 n

/-- A two-byte field, most significant byte first (R161). -/
def wordBytes (n : Nat) : List Byte := [byteOf (n / 256), byteOf (n % 256)]

/-- R161: yes is 01h, no is 00h. -/
def yesNo (b : Bool) : Byte := if b then 1 else 0

/-- A byte read as a number. -/
def byteAt (b : List Byte) (i : Nat) : Nat := (b.getD i 0).toNat

/-- Two bytes read as a number, most significant first (R161). -/
def wordAt (b : List Byte) (i : Nat) : Nat := byteAt b i * 256 + byteAt b (i + 1)

/-- R17: the three bytes of a sample, most significant first. -/
def sampleBytes (x : Sample) : List Byte := [x.extractLsb' 16 8, x.extractLsb' 8 8, x.extractLsb' 0 8]

/-- R17: the sample in the three bytes from byte `i`. -/
def sampleAt (b : List Byte) (i : Nat) : Sample :=
  b.getD i 0 ++ b.getD (i + 1) 0 ++ b.getD (i + 2) 0

/-! ## Codes of enumerations -/

/-- R17: the code of a lamp command. -/
def Lamp.code : Lamp → Nat
  | .off => 0
  | .waiting => 1
  | .live => 2
  | .warning => 3
  | .priority => 4
  | .fault => 5

/-- R17: the code of a channel command, 00h for none. -/
def chanCode : Option Chan → Nat
  | none => 0
  | some c => c.code

/-- R161: the reason codes from 01h. -/
def Reason.code : Reason → Nat
  | .unknownKind => 1
  | .badLength => 2
  | .badValue => 3
  | .overrun => 4
  | .agendaFull => 5
  | .nothingStaged => 6
  | .floorClosed => 7
  | .floorHeld => 8
  | .trunkDown => 9
  | .noChannel => 10
  | .notEligible => 11
  | .notFound => 12
  | .listFull => 13
  | .noRoom => 14
  | .noTimer => 15
  | .notAdmitted => 16
  | .flagged => 17
  | .withdrawn => 18
  | .expired => 19
  | .revoked => 20
  | .displaced => 21
  | .cancelled => 22
  | .itemChange => 23
  | .closed => 24
  | .flushed => 25
  | .seatLost => 26
  | .disabled => 27
  | .unitFault => 28
  | .escalated => 29
  | .priorityClear => 30
  | .truncated => 31
  | .removed => 32

/-- R161: modes from 00h. -/
def Mode.code : Mode → Nat
  | .direct => 0
  | .queued => 1
  | .moderated => 2
  | .override => 3

/-- R161: RESUME 00h, CLEAR 01h. -/
def PriorityEnd.code : PriorityEnd → Nat
  | .resume => 0
  | .clear => 1

/-- R161: CLOSED 00h, OPEN 01h, HELD 02h. -/
def Floor.code : Floor → Nat
  | .closed => 0
  | .opened => 1
  | .held => 2

/-- R169: DOWN 00h, UP 01h. -/
def TrunkState.code : TrunkState → Nat
  | .down => 0
  | .up => 1

/-- R161: FREE 00h, LIVE 01h, RELEASING 02h. -/
def ChanState.code : ChanState → Nat
  | .free => 0
  | .live => 1
  | .releasing => 2

/-- R161: classes from 00h. -/
def SeatClass.code : SeatClass → Nat
  | .delegate => 0
  | .chair => 1
  | .guest => 2
  | .observer => 3

/-- R169: IDLE 00, WAITING 01, LIVE 10. -/
def Place.code : Place → Nat
  | .idle => 0
  | .waiting => 1
  | .live => 2

/-- R151, R161: the commanded state of a sense, 00h closed and 01h open. -/
def Sense.commandedOpen : Sense → Bool
  | .reportedClosed => true
  | .reportedOpen => false

/-! ## The trunk frame -/

/-- R17: the nine uplink slots of a returned trunk frame. -/
def slotsOf (b : List Byte) : PerChan Sample :=
  { c1 := sampleAt b 0, c2 := sampleAt b 3, c3 := sampleAt b 6, c4 := sampleAt b 9, c5 := sampleAt b 12,
    c6 := sampleAt b 15, c7 := sampleAt b 18, c8 := sampleAt b 21, p := sampleAt b 24 }

/-- R3: the nine uplink samples of a frame period: the returned frame's slots, or 0 when no frame belongs to it.
They are handed on in both trunk states, as R3 and R138 say. R149's words 'with the trunk DOWN' could be read as samples of 0 for
a frame that does return while the trunk is DOWN; the model does not read them so (DESIGN CHOICE, log entry 27). -/
def uplink : Option (List Byte) → PerChan Sample
  | none => PerChan.all 0
  | some b => slotsOf b

/-- R17: the twelve sweep-stream bytes of a trunk frame. -/
def streamOf (b : List Byte) : List Byte := (b.drop 33).take Config.streamBytesPerFrame

/-- R1, R17: a trunk-out frame: nine slots of 0, the two program samples and twelve sweep-stream bytes. -/
def trunkFrame (program : Sample × Sample) (stream : List Byte) : List Byte :=
  List.replicate 27 0 ++ sampleBytes program.1 ++ sampleBytes program.2 ++ stream

/-- R4: the next twelve sweep-stream bytes: what is left of the record, then idle fill 00h. -/
def nextStreamBytes (stream : List Byte) : List Byte :=
  (stream ++ List.replicate Config.streamBytesPerFrame 0).take Config.streamBytesPerFrame

/-! ## The sweep record -/

/-- R7, R17: a seat entry at emission: the down half, and the up half cleared to 00h 00h. -/
def entryBytes (c : Command) : List Byte := [byteOf c.lamp.code, byteOf (chanCode c.chan), 0, 0]

/-- R5, R17: the sweep header. -/
def headerBytes (blinkOn : Bool) (number : Nat) : List Byte := 0xB4#8 :: yesNo blinkOn :: wordBytes number

/-- R4: the sweep record: the header, then the 200 seat entries, seat 1 first. -/
def recordOf (blinkOn : Bool) (number : Nat) (commands : List Command) : List Byte :=
  headerBytes blinkOn number ++ commands.flatMap entryBytes

/-- R17: the two bytes of an up half. -/
def upHalfOf (b2 b3 : Byte) : UpHalf :=
  { answered := b2.getLsbD 0, live := b2.getLsbD 1, talk := b3.getLsbD 0, priority := b3.getLsbD 1,
    next := b3.getLsbD 2, cancel := b3.getLsbD 3 }

/-- R9, R17: the up halves of the seat entries of a record, the down halves disregarded. -/
def upHalvesOf : List Byte → List UpHalf
  | _ :: _ :: b2 :: b3 :: rest => upHalfOf b2 b3 :: upHalvesOf rest
  | _ => []

/-- R9: an entry no seat unit wrote. -/
def UpHalf.unanswered : UpHalf :=
  { answered := false, live := false, talk := false, priority := false, next := false, cancel := false }

/-! ## The head frames -/

/-- R17: the two program samples of an incoming head frame. -/
def programOf (b : List Byte) : Sample × Sample := (sampleAt b 0, sampleAt b 3)

/-- R17: the two message bytes of an incoming head frame. -/
def messageBytesOf (b : List Byte) : Byte × Byte := (b.getD 6 0, b.getD 7 0)

/-- R13: the link state's code in an outgoing head frame. -/
def LinkState.code : LinkState → Byte
  | .unlocked => 0
  | .locked => 1

/-- R15, R17: an outgoing head frame: nine gated samples, the mix, two message bytes and the link state. -/
def headFrame (y : PerChan Sample) (mix : Sample) (m1 m2 : Byte) (link : LinkState) : List Byte :=
  y.toList.flatMap sampleBytes ++ sampleBytes mix ++ [m1, m2, link.code]

/-! ## Outgoing messages -/

/-- R161: a message: kind, tag, body length, body. -/
def messageBytes (kind tag : Byte) (body : List Byte) : List Byte := kind :: tag :: byteOf body.length :: body

/-- R167: the kind of a notice. -/
def Notice.kind : Notice → Byte
  | .granted .. => 0x40#8
  | .ended .. => 0x41#8
  | .heldBy .. => 0x42#8
  | .resumed .. => 0x43#8
  | .queued .. => 0x44#8
  | .dequeued .. => 0x45#8
  | .denied .. => 0x46#8
  | .warning .. => 0x47#8
  | .timeOver .. => 0x48#8
  | .seatFound .. => 0x49#8
  | .seatLost .. => 0x4A#8
  | .discrepancy .. => 0x4B#8
  | .trunkUp .. => 0x4C#8
  | .trunkDown .. => 0x4D#8
  | .itemChanged .. => 0x4E#8
  | .floorClosed .. => 0x4F#8
  | .noticesLost .. => 0x50#8

/-- R161: the body of a notice, its fields in order. -/
def Notice.body : Notice → List Byte
  | .granted n c fromList => [byteOf n, byteOf c.code, yesNo fromList]
  | .ended n c r d => [byteOf n, byteOf c.code, byteOf r.code] ++ wordBytes d
  | .heldBy n => [byteOf n]
  | .resumed n e => [byteOf n, byteOf e.code]
  | .queued n p => [byteOf n, byteOf p]
  | .dequeued n r => [byteOf n, byteOf r.code]
  | .denied n r => [byteOf n, byteOf r.code]
  | .warning n c r => [byteOf n, byteOf c.code] ++ wordBytes r
  | .timeOver n c => [byteOf n, byteOf c.code]
  | .seatFound n => [byteOf n]
  | .seatLost n => [byteOf n]
  | .discrepancy n sense => [byteOf n, yesNo sense.commandedOpen, yesNo (!sense.commandedOpen)]
  | .trunkUp k => wordBytes k
  | .trunkDown k => wordBytes k
  | .itemChanged i m => wordBytes i ++ [byteOf m.code]
  | .floorClosed i r => wordBytes i ++ [byteOf r.code]
  | .noticesLost k => wordBytes k

/-- R161: the bytes of a notice, its tag 00h. -/
def Notice.bytes (n : Notice) : List Byte := messageBytes n.kind 0 n.body

/-- R169: the first byte of a seat record. -/
def SeatRecord.flagByte (r : SeatRecord) : Nat :=
  r.config.enabled.toNat + 2 * (r.config.keyAction == .hold).toNat + 4 * r.present.toNat + 8 * r.flagged.toNat
    + 16 * r.pending.toNat + 32 * r.config.cls.code

/-- R169: the five bytes of a seat record. -/
def SeatRecord.bytes (r : SeatRecord) : List Byte :=
  byteOf r.flagByte :: wordBytes r.config.level ++
    [byteOf (r.place.code + 16 * chanCode r.bound), byteOf r.mismatch]

/-- R169: the four bytes of a channel record: 00h for no seat, FFFFh for untimed. -/
def ChanRecord.bytes (r : ChanRecord) : List Byte :=
  [byteOf r.state.code, byteOf (r.seat.getD 0)] ++ wordBytes (r.remaining.getD Config.wordMax)

/-- R169: the body of the READ_FLOOR reply. -/
def FloorReport.bytes (f : FloorReport) : List Byte :=
  byteOf f.floor.code :: wordBytes f.item ++ [byteOf f.count, byteOf f.trunk.code]
    ++ f.channels.toList.flatMap ChanRecord.bytes ++ [byteOf f.waiting.length]
    ++ f.waiting.flatMap fun e => byteOf e.seat :: wordBytes e.sweep

/-- R161: ACCEPTED 80h, REFUSED 81h. -/
def ReplyBody.kind : ReplyBody → Byte
  | .refused _ => 0x81#8
  | .done | .seatsLoaded .. | .seatsRead .. | .position _ | .entriesLeft _ | .contextsDropped _ | .granted ..
  | .revoked _ | .grantsMade _ | .cancelled .. | .extended .. | .flagsCleared _ | .floorRead _ => 0x80#8

/-- R161: the body of a reply, its fields in order. -/
def ReplyBody.body : ReplyBody → List Byte
  | .refused r => [byteOf r.code]
  | .done => []
  | .seatsLoaded first count => [byteOf first, byteOf count]
  | .seatsRead first count records => [byteOf first, byteOf count] ++ records.flatMap SeatRecord.bytes
  | .position p => [byteOf p]
  | .entriesLeft n => [byteOf n]
  | .contextsDropped n => [byteOf n]
  | .granted c fromList => [byteOf c.code, yesNo fromList]
  | .revoked r => [byteOf r.code]
  | .grantsMade n => [byteOf n]
  | .cancelled e r => [byteOf e, byteOf r]
  | .extended c r => byteOf c.code :: wordBytes r
  | .flagsCleared n => [byteOf n]
  | .floorRead f => f.bytes

/-- R161: the bytes of a reply, with the tag of the directive it answers. -/
def Reply.bytes (r : Reply) : List Byte := messageBytes r.body.kind r.tag r.body.body

end Sys2Proof.Machine
end

