-- ==== Sys2Proof/Machine/Directives.lean ====
section
/-! DEFINITION. Decoding a complete directive (R162) and taking the oldest entry of the input buffer for dispatch (R164). -/

namespace Sys2Proof.Machine

/-! ## Field values -/

/-- R161: a yes/no field, `none` outside 00h and 01h. -/
def readYesNo : Nat → Option Bool
  | 0 => some false
  | 1 => some true
  | _ => none

/-- R161: a class, numbered from 00h. -/
def readClass : Nat → Option SeatClass
  | 0 => some .delegate
  | 1 => some .chair
  | 2 => some .guest
  | 3 => some .observer
  | _ => none

/-- R161: a key action, PUSH 00h, HOLD 01h. -/
def readKeyAction : Nat → Option KeyAction
  | 0 => some .push
  | 1 => some .hold
  | _ => none

/-- R161: a mode, DIRECT 00h to OVERRIDE 03h. -/
def readMode : Nat → Option Mode
  | 0 => some .direct
  | 1 => some .queued
  | 2 => some .moderated
  | 3 => some .override
  | _ => none

/-- R161: an expiry, REVOKE 00h, WARN_ONLY 01h. -/
def readExpiry : Nat → Option Expiry
  | 0 => some .revoke
  | 1 => some .warnOnly
  | _ => none

/-- R161: a priority end, RESUME 00h, CLEAR 01h. -/
def readPriorityEnd : Nat → Option PriorityEnd
  | 0 => some .resume
  | 1 => some .clear
  | _ => none

/-- R161: the agenda-empty setting, KEEP 00h, CLOSE 01h. -/
def readAgendaEmpty : Nat → Option AgendaEmpty
  | 0 => some .keep
  | 1 => some .close
  | _ => none

/-- R161: a set of classes, one bit each from bit 0; a class outside the four is refused. -/
def readClassSet (n : Nat) : Option ClassSet :=
  if n < 16 then
    some { delegate := n.testBit 0, chair := n.testBit 1, guest := n.testBit 2, observer := n.testBit 3 }
  else none

/-- 00_scope 0.8: a value clamped to a range. -/
def clamp (lo hi n : Nat) : Nat := max lo (min n hi)

/-- R162: a seat number, `none` outside 1 to 200. -/
def readSeat (n : Nat) : Option Nat := if 1 ≤ n ∧ n ≤ Config.seatCount then some n else none

/-- R54: a number of which 0 is refused and a value above `hi` is clamped to it. -/
def readPositive (hi n : Nat) : Option Nat := if n = 0 then none else some (min n hi)

/-- R168: a number that must be one of a set. -/
def readOneOf (allowed : List Nat) (n : Nat) : Option Nat := if allowed.contains n then some n else none

/-! ## Bodies -/

/-- R20: the seat entries of a LOAD_SEATS body, five bytes each, a level above 32,768 clamped. -/
def readSeatConfigs : List Byte → Option (List SeatConfig)
  | e :: c :: k :: l1 :: l2 :: rest => do
    let enabled ← readYesNo e.toNat
    let cls ← readClass c.toNat
    let keyAction ← readKeyAction k.toNat
    let others ← readSeatConfigs rest
    some ({ enabled := enabled, cls := cls, keyAction := keyAction, level := min (wordAt [l1, l2] 0) Config.unity } :: others)
  | _ => some []

/-- R20, R26: a run of 1 to 48 seats whose first and last lie within 1 to 200. -/
def readRun (first count : Nat) : Option (Nat × Nat) :=
  if 1 ≤ count ∧ count ≤ 48 ∧ 1 ≤ first ∧ first + count ≤ Config.seatCount + 1 then some (first, count) else none

/-- R20: LOAD_SEATS. -/
def readLoadSeats (b : List Byte) : Option Directive := do
  let run ← readRun (byteAt b 0) (byteAt b 1)
  let entries ← readSeatConfigs (b.drop 2)
  some (.loadSeats run.1 entries)

/-- R26: READ_SEATS. -/
def readReadSeats (b : List Byte) : Option Directive := do
  let run ← readRun (byteAt b 0) (byteAt b 1)
  some (.readSeats run.1 run.2)

/-- R79: the rotation start as it is loaded: 0 loads 1, above 200 loads 200. -/
def fitRotation (n : Nat) : Nat := clamp 1 Config.seatCount n

/-- R168: SET_GENERAL. -/
def readSetGeneral (b : List Byte) : Option Directive := do
  let depth ← readOneOf [1, 2, 4, 8] (byteAt b 0)
  let ramp ← readOneOf [32, 64, 128, 256, 512] (wordAt b 3)
  let agendaEmpty ← readAgendaEmpty (byteAt b 6)
  let load ← readYesNo (byteAt b 7)
  let mask ← if byteAt b 9 < 64 then some (b.getD 9 0) else none
  some (.setGeneral {
    settings := { filterDepth := depth, presenceTimeout := clamp 2 250 (byteAt b 1),
                  auditTolerance := clamp 1 15 (byteAt b 2), rampLength := ramp, lockout := clamp 0 250 (byteAt b 5),
                  agendaEmpty := agendaEmpty, noticeMask := mask },
    rotation := if load then some (fitRotation (byteAt b 8)) else none })

/-- R53, R54: STAGE_ITEM. -/
def readStageItem (b : List Byte) : Option Directive := do
  let mode ← readMode (byteAt b 2)
  let maxLive ← readPositive 8 (byteAt b 3)
  let admitted ← readClassSet (byteAt b 5)
  let chairFirst ← readYesNo (byteAt b 6)
  let chairTimed ← readYesNo (byteAt b 9)
  let expiry ← readExpiry (byteAt b 12)
  let batch ← readPositive 8 (byteAt b 13)
  let priorityEnd ← readPriorityEnd (byteAt b 16)
  let suspend ← readYesNo (byteAt b 17)
  let carry ← readYesNo (byteAt b 18)
  some (.stageItem {
    item := wordAt b 0, mode := mode, maxLive := maxLive, listLimit := min (byteAt b 4) 64, admitted := admitted,
    chairFirst := chairFirst, limit := min (wordAt b 7) 3600, chairTimed := chairTimed,
    warningLead := min (wordAt b 10) 600, expiry := expiry, batch := batch, duckDepth := min (wordAt b 14) Config.unity,
    priorityEnd := priorityEnd, suspendWhileHeld := suspend, carryFloor := carry })

/-- R95: ENQUEUE. -/
def readEnqueue (b : List Byte) : Option Directive := do
  let n ← readSeat (byteAt b 0)
  some (.enqueue n (byteAt b 1))

/-- R119: EXTEND, a number of seconds above 3,600 clamped. -/
def readExtend (b : List Byte) : Option Directive := do
  let n ← readSeat (byteAt b 0)
  some (.extend n (min (wordAt b 1) 3600))

/-! ## The decoding order -/

/-- R162: the kinds of the table, 01h to 10h. -/
def knownKind (kind : Nat) : Bool := 1 ≤ kind && kind ≤ 16

/-- R162, check 2: the body length a kind requires, `none` when the body is too short to say. -/
def requiredLength (kind : Nat) (body : List Byte) : Option Nat :=
  match kind with
  | 1 => if body.length < 2 then none else some (2 + 5 * byteAt body 1)
  | 2 => some 2
  | 3 => some 10
  | 4 => some 19
  | 7 => some 1
  | 8 => some 1
  | 9 => some 2
  | 10 => some 1
  | 13 => some 3
  | 14 => some 1
  | _ => some 0

/-- R162, check 3: the fields of a body of the right length, `none` where a field is refused BAD_VALUE. -/
def readFields (kind : Nat) (b : List Byte) : Option Directive :=
  match kind with
  | 1 => readLoadSeats b
  | 2 => readReadSeats b
  | 3 => readSetGeneral b
  | 4 => readStageItem b
  | 5 => some .advanceItem
  | 6 => some .flushAgenda
  | 7 => (readSeat (byteAt b 0)).map .grant
  | 8 => (readSeat (byteAt b 0)).map .revoke
  | 9 => readEnqueue b
  | 10 => (readSeat (byteAt b 0)).map .remove
  | 11 => some .next
  | 12 => some .cancelAll
  | 13 => readExtend b
  | 14 => some (.clearFlag (byteAt b 0))
  | 15 => some .readFloor
  | 16 => some .restart
  | _ => none

/-- R161, R162: decoding: kind, then length, then fields.
`len` is the body length the header gave; above 250 it is refused whatever the kind requires. -/
def decodeMessage (kind len : Byte) (body : List Byte) : Decoded :=
  if knownKind kind.toNat then
    if Config.bodyMax < len.toNat ∨ requiredLength kind.toNat body ≠ some len.toNat then .refused .badLength
    else
      match readFields kind.toNat body with
      | some d => .accepted d
      | none => .refused .badValue
  else .refused .unknownKind

/-- R162: the outcome of decoding an entry, made now if DIRECTIVE_COMPLETE has not made it already (DESIGN CHOICE,
log entry 23). -/
def Entry.outcome (e : Entry) : Decoded := e.decoded.getD (decodeMessage e.kind e.len e.body)

/-! ## Dispatch -/

/-- R164: the oldest entry, when it is complete and the reply queue holds fewer than 4 replies, with the state it leaves
behind on leaving the buffer. -/
def State.oldest (s : State) : Option (Entry × State) :=
  match s.buffer with
  | [] => none
  | e :: rest => if e.complete && s.replies.length < Config.replyMax then some (e, { s with buffer := rest }) else none

/-- R164: a directive of kind `kind` is dispatched: one refused at decoding is answered REFUSED,
and one that was decoded is taken by its owner, which queues the reply.
When the oldest entry is not a complete directive of that kind, or the reply queue is full, nothing is dispatched. -/
def State.dispatch (s : State) (kind : Nat) (owner : State → Byte → Directive → State) : State :=
  match s.oldest with
  | none => s
  | some (e, s1) =>
    if e.skip = false ∧ e.kind.toNat = kind then
      match e.outcome with
      | .refused r => s1.reply e.tag (.refused r)
      | .accepted d => owner s1 e.tag d
    else s

end Sys2Proof.Machine
end

