-- ==== Sys2Proof/Machine/Agenda.lean ====
section
/-! DEFINITION. STAGE_ITEM, ADVANCE_ITEM and FLUSH_AGENDA: opening, changeover, closing and flush (chapter 4). -/

namespace Sys2Proof.Machine

/-! ## STAGE_ITEM -/

/-- R58, R59: a STAGE_ITEM that passed its decoding. -/
def State.stageItem (s : State) (tag : Byte) (c : Context) : State :=
  match s.agenda with
  | [] => ({ s with agenda := [c], floor := .opened }.raise (.itemChanged c.item c.mode)).fill.reply tag (.position 1)
  | [a] => { s with agenda := [a, c] }.reply tag (.position 2)
  | _ => s.reply tag (.refused .agendaFull)

/-- STAGE_ITEM (R58, R59). -/
def execStageItem (s : State) : Host.Outcome State Fault Refusal :=
  .next (s.dispatch 4 fun s tag d =>
    match d with
    | .stageItem c => s.stageItem tag c
    | _ => s)

/-! ## Changeover -/

/-- R63, step 1: the grants whose class the new context does not admit end, oldest first. -/
def State.fitAdmission (s : State) (c : Context) : State :=
  (s.speakers.filter fun e => !c.admitted.admits (s.classOf e.seat)).foldl
    (fun s e => s.release e.chan e.seat .itemChange) s

/-- R63, step 2: the grants beyond the new max live end, youngest first. -/
def State.fitMaxLive (s : State) (c : Context) : State :=
  (s.speakers.drop c.maxLive).reverse.foldl (fun s e => s.release e.chan e.seat .itemChange) s

/-- R64, step 3: the waiting entries whose class the new context does not admit leave, head first. -/
def State.fitListAdmission (s : State) (c : Context) : State :=
  (s.waiting.filter fun e => !c.admitted.admits (s.classOf e.seat)).foldl (fun s e => s.removeWaiting e.seat .itemChange) s

/-- R64, step 4: under DIRECT every remaining entry leaves, head first. -/
def State.fitDirect (s : State) (c : Context) : State :=
  if c.mode = .direct then s.clearWaiting .itemChange else s

/-- R64, step 5: the entries beyond the new list limit leave TRUNCATED, from the tail. -/
def State.fitListLimit (s : State) (c : Context) : State :=
  (s.waiting.drop c.listLimit).reverse.foldl (fun s e => s.removeWaiting e.seat .truncated) s

/-- R65: the remaining time of a surviving grant under the new context. -/
def fitRemaining (allowance before : Option Nat) : Option Nat :=
  match allowance, before with
  | none, _ => none
  | some a, none => some a
  | some a, some r => some (min r a)

/-- R65: the warned mark re-evaluated for a remaining time. -/
def Context.warnedAt (c : Context) : Option Nat → Bool
  | none => false
  | some r => r == 0 || c.atLead r

/-- R65: WARNING when the re-evaluation takes the mark from no to yes. -/
def State.raiseFitWarning (s : State) (e : Speaker) (before after : Bool) (time : Option Nat) : State :=
  match time with
  | none => s
  | some r => if after && !before then s.raise (.warning e.seat e.chan (r / Config.intervalsPerTenth)) else s

/-- R65: a timed grant that stands at 0 is met by the new expiry. -/
def State.meetExpiry (s : State) (c : Context) (e : Speaker) (time : Option Nat) : State :=
  if time = some 0 ∧ c.expiry = .revoke then s.release e.chan e.seat .expired else s

/-- R65, step 6, for one surviving grant: its timer, its warned mark and WARNING, and then, where it stands at 0, the new expiry.
A decrement still due from this interval start stays due, also where the grant becomes untimed; taken while it is untimed it changes
nothing, and taken after a second changeover has given the grant its full allowance it takes one off it (DEDUCED, log entry 14).
The End EXPIRED is made grant by grant as each is fitted, so its ENDED comes before the WARNING of a younger grant; R65's 'after
step 6' and 'at this step' leave that order open (DESIGN CHOICE, log entry 26). -/
def State.fitTimer (s : State) (c : Context) (e : Speaker) : State :=
  let before := s.chan e.chan
  let time := fitRemaining (c.allowance (s.classOf e.seat)) before.remaining
  let warned := c.warnedAt time
  ((s.setChan e.chan { before with remaining := time, warned := warned }).raiseFitWarning e before.warned warned time).meetExpiry
    c e time

/-- R65, step 6: every surviving grant's timer, oldest grant first. -/
def State.fitTimers (s : State) (c : Context) : State := s.speakers.foldl (fun s e => s.fitTimer c e) s

/-- R63 to R65: steps 1 to 6 of a changeover with carry. -/
def State.carryFloor (s : State) (c : Context) : State :=
  (((((s.fitAdmission c).fitMaxLive c).fitListAdmission c).fitDirect c).fitListLimit c).fitTimers c

/-- R62: steps 1 and 2 of a changeover without carry. -/
def State.clearFloor (s : State) (r : Reason) : State := (s.releaseSpeakers r).clearWaiting r

/-- R61, R62, R66: the changeover to the context that has just become active. -/
def State.changeover (s : State) (c : Context) : State :=
  ((if c.carryFloor then s.carryFloor c else s.clearFloor .itemChange).raise (.itemChanged c.item c.mode)).fill

/-! ## Closing -/

/-- R67, step 2: channel P, if it is LIVE, ends with reason `r` and is not completed, the floor being CLOSED. -/
def State.releaseHolder (s : State) (r : Reason) : State :=
  match (s.chan .p).state, (s.chan .p).seat with
  | .live, some n => s.release .p n r
  | _, _ => s

/-- R67: the closing procedure, with the closing item and reason. -/
def State.closeFloor (s : State) (item : Nat) (r : Reason) : State :=
  (((({ s with agenda := [], floor := .closed }.releaseHolder r).releaseSpeakers r).clearWaiting r).raise
    (.floorClosed item r))

/-! ## ADVANCE_ITEM -/

/-- R60: the first row that fits the state at dispatch. -/
def State.advanceItem (s : State) (tag : Byte) : State :=
  match s.agenda with
  | [] => s.reply tag (.refused .floorClosed)
  | a :: rest =>
    if s.floor = .held then s.reply tag (.refused .floorHeld)
    else
      match rest with
      | n :: later => ({ s with agenda := n :: later }.changeover n).reply tag (.entriesLeft (later.length + 1))
      | [] =>
        match s.settings.agendaEmpty with
        | .keep => s.reply tag (.refused .nothingStaged)
        | .close => (s.closeFloor a.item .closed).reply tag (.entriesLeft 0)

/-- ADVANCE_ITEM (R60). -/
def execAdvanceItem (s : State) : Host.Outcome State Fault Refusal :=
  .next (s.dispatch 5 fun s tag d =>
    match d with
    | .advanceItem => s.advanceItem tag
    | _ => s)

/-! ## FLUSH_AGENDA -/

/-- R68: the flush under KEEP. The waiting list is empty from step 3 on, so that of all its fills none grants. -/
def State.flushKeep (s : State) (a : Context) : State :=
  (({ s with agenda := [a] }.clearFloor .flushed).endHolder .flushed).fill

/-- R68, R69: FLUSH_AGENDA at dispatch. -/
def State.flushAgenda (s : State) (tag : Byte) : State :=
  match s.agenda with
  | [] => s.reply tag (.refused .floorClosed)
  | a :: rest =>
    match s.settings.agendaEmpty with
    | .keep => (s.flushKeep a).reply tag (.contextsDropped rest.length)
    | .close => (s.closeFloor a.item .flushed).reply tag (.contextsDropped (rest.length + 1))

/-- FLUSH_AGENDA (R68, R69). -/
def execFlushAgenda (s : State) : Host.Outcome State Fault Refusal :=
  .next (s.dispatch 6 fun s tag d =>
    match d with
    | .flushAgenda => s.flushAgenda tag
    | _ => s)

end Sys2Proof.Machine
end

