-- ==== Sys2Proof/Machine/Audit.lean ====
section
/-! DEFINITION. The conformance audit: AUDIT_SWEEP and CLEAR_FLAG (chapter 9). -/

namespace Sys2Proof.Machine

/-! ## Comparison -/

/-- R151: the sense of a mismatch, from the commanded state. -/
def senseOf (commandedOpen : Bool) : Sense := if commandedOpen then .reportedClosed else .reportedOpen

/-- R153: the pending mark after a comparison that left the mismatch count at `count`. -/
def Seat.pendingAfter (t : Seat) (tolerance count : Nat) (commandedOpen : Bool) : Option Sense :=
  match t.pendingSense with
  | some sense => some sense
  | none => if tolerance ≤ count ∧ t.flagged = false then some (senseOf commandedOpen) else none

/-- R152, R153: the comparison of one seat. -/
def Seat.compare (t : Seat) (tolerance : Nat) (e : AuditEntry) : Seat :=
  if e.commandedOpen = e.reportedOpen then { t with mismatch := 0 }
  else
    let count := min (t.mismatch + 1) Config.mismatchMax
    { t with mismatch := count, pendingSense := t.pendingAfter tolerance count e.commandedOpen }

/-- R152: an entry is compared when its seat is present. -/
def State.compareEntry (s : State) (e : AuditEntry) : State :=
  if (s.seat e.seat).present then s.updSeat e.seat fun t => t.compare s.settings.auditTolerance e else s

/-- R152: every answered entry of the sweep, in ascending seat order. -/
def State.compareAll (s : State) (entries : List AuditEntry) : State :=
  entries.foldl (fun s e => s.compareEntry e) s

/-! ## Search and report -/

/-- R155: the seats in the order of the search: from the one after the cursor up to 200, then from 1 to the cursor. -/
def searchOrder (cursor : Nat) : List Nat := seatNumbers.drop cursor ++ seatNumbers.take cursor

/-- R155: the pending seat the search finds first. -/
def State.findPending (s : State) : Option Nat :=
  (searchOrder s.cursor).find? fun n => (s.seat n).pendingSense.isSome

/-- R156, step 4: the reported seat leaves the floor. -/
def State.removeReported (s : State) (n : Nat) : State :=
  match (s.seat n).place with
  | .idle => s
  | .waiting => s.removeWaiting n .flagged
  | .live => s.endSeat n .unitFault

/-- R50, R156, steps 2 and 3: a seat flagged by its report. Its armed mark goes with the report and not only at the next
examination, so that a flag cleared between two sweeps leaves no held PRIORITY armed (R159; DEDUCED, log entry 29). -/
def Seat.reported (t : Seat) : Seat := { t with flagged := true, pendingSense := none, armed := false }

/-- R156: the report of seat `n`, pending with sense `sense`. -/
def State.reportSeat (s : State) (n : Nat) (sense : Sense) : State :=
  { (s.raise (.discrepancy n sense)).updSeat n Seat.reported with cursor := n }.removeReported n

/-- R155, R156: the search and the report it leads to, if any. -/
def State.reportOne (s : State) : State :=
  match s.findPending with
  | none => s
  | some n =>
    match (s.seat n).pendingSense with
    | none => s
    | some sense => s.reportSeat n sense

/-- R154: the audit's work for the returned sweep, if it is due. -/
def State.takeAudit (s : State) : State :=
  match s.owed.audit with
  | none => s
  | some entries => ((s.setOwed { s.owed with audit := none }).compareAll entries).reportOne

/-- AUDIT_SWEEP (R154). -/
def execAuditSweep (s : State) : Host.Outcome State Fault Refusal := .next s.takeAudit

/-! ## CLEAR_FLAG -/

/-- R159: a seat with its marks and its count cleared. A seat that was flagged is not armed until it presses again
(DEDUCED, log entry 29). -/
def Seat.cleared (t : Seat) : Seat :=
  { t with flagged := false, pendingSense := none, mismatch := 0, armed := t.armed && !t.flagged }

/-- R159: the number of flagged seats. -/
def State.flaggedCount (s : State) : Nat := (s.seats.filter fun t => t.flagged).length

/-- R159: CLEAR_FLAG at dispatch. -/
def State.clearFlag (s : State) (tag : Byte) (selector : Nat) : State :=
  if selector = 0 then
    { s with seats := s.seats.map Seat.cleared }.reply tag (.flagsCleared s.flaggedCount)
  else if selector ≤ Config.seatCount then
    (s.updSeat selector Seat.cleared).reply tag (.flagsCleared (s.seat selector).flagged.toNat)
  else s.reply tag (.refused .notFound)

/-- CLEAR_FLAG (R159). -/
def execClearFlag (s : State) : Host.Outcome State Fault Refusal :=
  .next (s.dispatch 14 fun s tag d =>
    match d with
    | .clearFlag selector => s.clearFlag tag selector
    | _ => s)

end Sys2Proof.Machine
end

