-- ==== Sys2Proof/Machine/Channels.lean ====
section
/-! DEFINITION. Speaking timers and the channel-freed event: EXPIRED, TIME_OVER, EXTEND and CHANNEL_FREED (chapter 6,
sections 6.5 to 6.7). -/

namespace Sys2Proof.Machine

/-! ## The decrement of a timer -/

/-- R115: the ordinary timers stand still: the floor is HELD and the active context suspends them. -/
def State.suspended (s : State) : Bool :=
  match s.active with
  | none => false
  | some c => s.floor == .held && c.suspendWhileHeld

/-- R116: the warning after a decrement that leaves `r`. -/
def State.warnAfter (s : State) (ctx : Context) (c : Chan) (n r : Nat) : State :=
  if (s.chan c).warned = false ∧ ctx.atLead r = true then
    (s.setChan c { s.chan c with warned := true }).raise (.warning n c (r / Config.intervalsPerTenth))
  else s

/-- R118: a timer has reached 0 under WARN_ONLY. -/
def State.timeIsOver (s : State) (c : Chan) (n : Nat) : State :=
  (s.setChan c { s.chan c with warned := true }).raise (.timeOver n c)

/-- R117, R118: the expiry of a timer that has reached 0. -/
def State.expireAfter (s : State) (ctx : Context) (c : Chan) (n : Nat) : State :=
  match ctx.expiry with
  | .revoke => s.endOrdinary c n .expired
  | .warnOnly => s.timeIsOver c n

/-- R115 to R118: the decrement that leaves `r`, with the warning and the expiry it brings. -/
def State.countDown (s : State) (ctx : Context) (c : Chan) (n r : Nat) : State :=
  let s1 := (s.setChan c { s.chan c with remaining := some r }).warnAfter ctx c n r
  if r = 0 then s1.expireAfter ctx c n else s1

/-- R115: the decrement of the timer of channel `c`, if it has one that runs. It is no longer due afterwards. -/
def State.tick (s : State) (c : Chan) : State :=
  let s1 := s.stopTimer c
  match s.active, (s.chan c).seat, (s.chan c).remaining with
  | some ctx, some n, some (r + 1) => if s.suspended then s1 else s1.countDown ctx c n r
  | _, _, _ => s1

/-- The decrement of `c` is due from this interval start and the active context's expiry is `e`. -/
def State.timerDue (s : State) (c : Chan) (e : Expiry) : Bool :=
  s.owed.timers.contains c && (s.active.map Context.expiry) == some e

/-- EXPIRED (R117): the due decrement of `c` is taken under REVOKE.
Where an EXTEND has added time first (R121) the decrement leaves the timer above 0 and no grant ends (DEDUCED,
log entry 14). -/
def execExpired (c : Chan) (s : State) : Host.Outcome State Fault Refusal :=
  .next (if s.timerDue c .revoke then s.tick c else s)

/-- TIME_OVER (R118): the due decrement of `c` is taken under WARN_ONLY. -/
def execTimeOver (c : Chan) (s : State) : Host.Outcome State Fault Refusal :=
  .next (if s.timerDue c .warnOnly then s.tick c else s)

/-! ## EXTEND -/

/-- R120: the warned mark after an addition that gives `r`: cleared above lead × 500, unchanged otherwise. -/
def State.warnedAfterExtend (s : State) (warned : Bool) (r : Nat) : Bool :=
  match s.active with
  | none => warned
  | some ctx => warned && r ≤ ctx.warningLead * Config.intervalsPerSecond

/-- R120: time is added to the timed grant of channel `c`, which has `r` left. -/
def State.addTime (s : State) (tag : Byte) (c : Chan) (r seconds : Nat) : State :=
  let after := min (r + seconds * Config.intervalsPerSecond) Config.remainingMax
  (s.setChan c { s.chan c with remaining := some after, warned := s.warnedAfterExtend (s.chan c).warned after }).reply tag
    (.extended c (after / Config.intervalsPerTenth))

/-- R119: the first row that fits the state at dispatch. -/
def State.operatorExtend (s : State) (tag : Byte) (n seconds : Nat) : State :=
  match (s.seat n).bound with
  | none => s.reply tag (.refused .notFound)
  | some .p => s.reply tag (.refused .notFound)
  | some c =>
    match (s.chan c).remaining with
    | none => s.reply tag (.refused .noTimer)
    | some r => s.addTime tag c r seconds

/-- EXTEND (R119, R120). -/
def execExtend (s : State) : Host.Outcome State Fault Refusal :=
  .next (s.dispatch 13 fun s tag d =>
    match d with
    | .extend n seconds => s.operatorExtend tag n seconds
    | _ => s)

/-! ## CHANNEL_FREED -/

/-- R113: channel `c` becomes FREE. Its held count keeps its last value until the next Grant (R111). -/
def State.freeChan (s : State) (c : Chan) : State :=
  (s.setChan c { s.chan c with state := .free }).setOwed { s.owed with freed := s.owed.freed.filter fun d => d != c }

/-- The gain stage has reported RELEASING channel `c` (R144). -/
def State.freedDue (s : State) (c : Chan) : Bool := s.owed.freed.contains c && (s.chan c).state == .releasing

/-- R113: the reported channel becomes FREE and the arbiter performs fill. -/
def State.takeFreed (s : State) (c : Chan) : State := if s.freedDue c then (s.freeChan c).fill else s

/-- R144: every channel that the last frame step reported and no CHANNEL_FREED has taken, each with its fill, in the order recorded:
channel 1 first and P last. R113 and R144 give no order among them (DESIGN CHOICE, log entry 33). Afterwards none is due. -/
def State.takeAllFreed (s : State) : State :=
  let s1 := s.owed.freed.foldl State.takeFreed s
  s1.setOwed { s1.owed with freed := [] }

/-- CHANNEL_FREED (R113). -/
def execChannelFreed (c : Chan) (s : State) : Host.Outcome State Fault Refusal := .next (s.takeFreed c)

end Sys2Proof.Machine
end

