-- ==== Sys2Proof/Machine/FloorDirectives.lean ====
section
/-! DEFINITION. The operator's floor directives GRANT, REVOKE, ENQUEUE, REMOVE, NEXT and CANCEL_ALL (chapter 5, sections 5.9
to 5.11), and READ_FLOOR (R169). -/

namespace Sys2Proof.Machine

/-! ## GRANT -/

/-- R76: the entry of seat `n`, if it has one, leaves the list silently, the seat being granted. -/
def State.leaveSilently (s : State) (n : Nat) : State := { s with waiting := s.waiting.filter fun e => e.seat != n }

/-- R93, the last three rows: an eligible seat that is not LIVE, with the floor OPEN and the trunk UP. -/
def State.grantByOperator (s : State) (tag : Byte) (n : Nat) : State :=
  match s.room with
  | none => s.reply tag (.refused .noChannel)
  | some c =>
    let fromList := (s.seat n).place == .waiting
    ((s.leaveSilently n).grant c n fromList).reply tag (.granted c fromList)

/-- R93: the first row that fits the state at dispatch. -/
def State.operatorGrant (s : State) (tag : Byte) (n : Nat) : State :=
  if s.floor = .closed then s.reply tag (.refused .floorClosed)
  else if s.floor = .held then s.reply tag (.refused .floorHeld)
  else if s.trunk = .down then s.reply tag (.refused .trunkDown)
  else if s.eligible n then
    match (s.seat n).bound with
    | some c => s.reply tag (.granted c false)
    | none => s.grantByOperator tag n
  else s.reply tag (.refused .notEligible)

/-- GRANT (R93). -/
def execGrant (s : State) : Host.Outcome State Fault Refusal :=
  .next (s.dispatch 7 fun s tag d =>
    match d with
    | .grant n => s.operatorGrant tag n
    | _ => s)

/-! ## REVOKE -/

/-- R94. -/
def State.operatorRevoke (s : State) (tag : Byte) (n : Nat) : State :=
  match (s.seat n).place with
  | .live => (s.endSeat n .revoked).reply tag (.revoked .revoked)
  | .waiting => (s.removeWaiting n .removed).reply tag (.revoked .removed)
  | .idle => s.reply tag (.refused .notFound)

/-- REVOKE (R94). -/
def execRevoke (s : State) : Host.Outcome State Fault Refusal :=
  .next (s.dispatch 8 fun s tag d =>
    match d with
    | .revoke n => s.operatorRevoke tag n
    | _ => s)

/-! ## ENQUEUE -/

/-- R95: the position fitted to the list: 0 is taken as 1, a position beyond the tail as the tail. -/
def fitPosition (length position : Nat) : Nat := clamp 1 (length + 1) position

/-- R95, the last row: the seat joins at the fitted position, and fill runs. -/
def State.enqueueAt (s : State) (tag : Byte) (n position : Nat) : State :=
  (s.insertWaiting n s.lastEmitted (position - 1)).fill.reply tag (.position position)

/-- R95: the first row that fits the state at dispatch. -/
def State.operatorEnqueue (s : State) (tag : Byte) (n position : Nat) : State :=
  if s.floor = .closed then s.reply tag (.refused .floorClosed)
  else if s.eligible n && (s.seat n).place == .idle then
    match s.active with
    | none => s.reply tag (.refused .notEligible)
    | some c =>
      if c.mode = .direct then s.reply tag (.refused .noRoom)
      else if s.waiting.length < c.listLimit then s.enqueueAt tag n (fitPosition s.waiting.length position)
      else s.reply tag (.refused .listFull)
  else s.reply tag (.refused .notEligible)

/-- ENQUEUE (R95). -/
def execEnqueue (s : State) : Host.Outcome State Fault Refusal :=
  .next (s.dispatch 9 fun s tag d =>
    match d with
    | .enqueue n position => s.operatorEnqueue tag n position
    | _ => s)

/-! ## REMOVE -/

/-- R96. -/
def State.operatorRemove (s : State) (tag : Byte) (n : Nat) : State :=
  match (s.seat n).place with
  | .waiting => (s.removeWaiting n .removed).reply tag .done
  | .idle => s.reply tag (.refused .notFound)
  | .live => s.reply tag (.refused .notFound)

/-- REMOVE (R96). -/
def execRemove (s : State) : Host.Outcome State Fault Refusal :=
  .next (s.dispatch 10 fun s tag d =>
    match d with
    | .remove n => s.operatorRemove tag n
    | _ => s)

/-! ## NEXT -/

/-- R91: a NEXT directive. A next ends no grant, so the grants it made are those the speaker list has gained. -/
def State.operatorNext (s : State) (tag : Byte) : State :=
  match s.floor with
  | .closed => s.reply tag (.refused .floorClosed)
  | .held => s.reply tag (.refused .floorHeld)
  | .opened => s.takeNext.reply tag (.grantsMade (s.takeNext.speakers.length - s.speakers.length))

/-- NEXT (R90, R91). -/
def execNext (s : State) : Host.Outcome State Fault Refusal :=
  .next (s.dispatch 11 fun s tag d =>
    match d with
    | .next => s.operatorNext tag
    | _ => s)

/-! ## CANCEL_ALL -/

/-- R92: a CANCEL_ALL directive. -/
def State.operatorCancel (s : State) (tag : Byte) : State :=
  if s.floor = .closed then s.reply tag (.refused .floorClosed)
  else s.cancelFloor.reply tag (.cancelled s.speakers.length s.waiting.length)

/-- CANCEL_ALL (R92). -/
def execCancelAll (s : State) : Host.Outcome State Fault Refusal :=
  .next (s.dispatch 12 fun s tag d =>
    match d with
    | .cancelAll => s.operatorCancel tag
    | _ => s)

/-! ## READ_FLOOR -/

/-- R169: a channel as READ_FLOOR shows it. -/
def Channel.record (c : Channel) : ChanRecord :=
  { state := c.state, seat := c.seat, remaining := c.remaining.map fun r => r / Config.intervalsPerTenth }

/-- R169: the floor as it stands. -/
def State.report (s : State) : FloorReport :=
  { floor := s.floor, item := (s.active.map Context.item).getD 0, count := s.agenda.length, trunk := s.trunk,
    channels := PerChan.tabulate fun c => (s.chan c).record, waiting := s.waiting }

/-- READ_FLOOR (R169). -/
def execReadFloor (s : State) : Host.Outcome State Fault Refusal :=
  .next (s.dispatch 15 fun s tag d =>
    match d with
    | .readFloor => s.reply tag (.floorRead s.report)
    | _ => s)

end Sys2Proof.Machine
end

