-- ==== Sys2Proof/Machine/KeyActions.lean ====
section
/-! DEFINITION. The key actions of a returned sweep: how the key filter derives each at its presentation (chapter 3) and how
the arbiter answers it (chapters 5 and 7): REQUEST, WITHDRAW, NEXT_ACTION, CANCEL_ACTION, PRIORITY_HELD and PRIORITY_RELEASED.

The slots of `owed.actions` are the sweep's edges and held levels in presentation order (R51).
An action is derived from its slot when the slot is reached, on the state as it then stands; a slot from which none can be
derived is spent when it is reached, and not before (log entry 7). -/

namespace Sys2Proof.Machine

/-- The key actions (00_scope 0.7). -/
inductive KeyAct where
  | request | withdraw | next | cancel | priorityHeld | priorityReleased
deriving DecidableEq, Repr

/-! ## Derivation -/

/-- R43, R44: the action of a TALK edge by key action and floor state. -/
def talkAct (k : KeyAction) (press : Bool) (place : Place) : Option KeyAct :=
  match k, press, place with
  | .push, true, .idle => some .request
  | .push, true, .waiting => some .withdraw
  | .push, true, .live => some .withdraw
  | .push, false, _ => none
  | .hold, true, .idle => some .request
  | .hold, true, _ => none
  | .hold, false, .idle => none
  | .hold, false, _ => some .withdraw

/-- R50: a flagged seat's request is presented, its other actions are not. -/
def unlessFlagged (t : Seat) (a : KeyAct) : Option KeyAct :=
  if t.flagged ∧ a ≠ .request then none else some a

/-- R41, R43 to R45, R50: the action of a TALK edge of an enabled and present seat. -/
def Seat.talkEvent (t : Seat) (press : Bool) : Option KeyAct :=
  if t.config.cls = .observer ∨ t.bound = some .p ∨ 0 < t.lockout then none
  else (talkAct t.config.keyAction press t.place).bind (unlessFlagged t)

/-- R41, R47, R50: an action of a key that only a CHAIR's class honours. -/
def Seat.chairEvent (t : Seat) (a : KeyAct) : Option KeyAct :=
  if t.config.cls = .chair then unlessFlagged t a else none

/-- R42 to R50: the action a slot's event gives a seat as it stands. -/
def Seat.derive (t : Seat) (e : KeyEvent) : Option KeyAct :=
  if t.config.enabled ∧ t.present then
    match e with
    | .priorityRelease => t.chairEvent .priorityReleased
    | .talk press => t.talkEvent press
    | .nextPress => t.chairEvent .next
    | .cancelPress => t.chairEvent .cancel
    | .priorityLevel => if t.keys.priority.held ∧ t.armed then t.chairEvent .priorityHeld else none
  else none

/-- The action presented from a slot in this state, or `none`. -/
def State.deriveSlot (s : State) (k : KeySlot) : Option KeyAct := (s.seat k.seat).derive k.event

/-- R46: a held and armed PRIORITY level whose seat is not entitled at its examination loses its armed mark.
Any other slot that gives no action is simply spent. -/
def State.spend (s : State) (k : KeySlot) : State :=
  if k.event = .priorityLevel then s.updSeat k.seat fun t => { t with armed := false } else s

/-! ## The arbiter's answers -/

/-- R91: a next presented by a chair. -/
def State.judgeNext (s : State) : State := if s.floor = .opened then s.takeNext else s

/-- R92: a cancel presented by a chair. -/
def State.judgeCancel (s : State) : State := if s.floor = .closed then s else s.cancelFloor

/-- The arbiter's answer to an action of seat `n`, derived from the returned sweep `sweep`. -/
def State.answer (s : State) (a : KeyAct) (n sweep : Nat) : State :=
  match a with
  | .request => s.judgeRequest n sweep
  | .withdraw => s.judgeWithdraw n
  | .next => s.judgeNext
  | .cancel => s.judgeCancel
  | .priorityHeld => s.judgePriorityHeld n
  | .priorityReleased => s.judgePriorityReleased n

/-! ## Presentation -/

/-- R79: the pointer advances by one seat, from 200 to 1. -/
def nextSeat (n : Nat) : Nat := if n < Config.seatCount then n + 1 else 1

/-- R79: the presentation of a returned sweep is over: the rotation pointer advances. -/
def State.endPresentation (s : State) : State :=
  { s.setOwed { s.owed with actions := none } with rotation := nextSeat s.rotation }

/-- R79: with no slot left, the presentation is over. -/
def State.closePresentation (s : State) : State :=
  match s.owed.actions with
  | some { slots := [], .. } => s.endPresentation
  | _ => s

/-- R51: the presentation goes on with the slots `rest`. -/
def State.keepSlots (s : State) (sweep : Nat) (rest : List KeySlot) : State :=
  s.setOwed { s.owed with actions := some { sweep := sweep, slots := rest } }

/-- R43 to R47: the event an action comes from. -/
def KeyAct.comesFrom : KeyAct → KeyEvent → Bool
  | .request, .talk _ => true
  | .withdraw, .talk _ => true
  | .next, .nextPress => true
  | .cancel, .cancelPress => true
  | .priorityHeld, .priorityLevel => true
  | .priorityReleased, .priorityRelease => true
  | _, _ => false

/-- The slot is the one that the key action `a` of seat `n` comes from. -/
def KeySlot.isOf (k : KeySlot) (n : Nat) (a : KeyAct) : Bool := k.seat == n && a.comesFrom k.event

/-- R51: slot `k` gives the action `a`, or none at all; it does not give another. -/
def State.canReach (s : State) (a : KeyAct) (k : KeySlot) : Bool := (s.deriveSlot k).all fun b => b == a

/-- R46, R51: slot `k` of returned sweep `sweep` is reached, the slots `rest` behind it: the action it gives is answered, or, giving
none, it is spent. -/
def State.takeSlot (s : State) (sweep : Nat) (k : KeySlot) (rest : List KeySlot) (answer : State → Nat → State) : State :=
  match s.deriveSlot k with
  | none => ((s.keepSlots sweep rest).spend k).closePresentation
  | some _ => (answer (s.keepSlots sweep rest) sweep).closePresentation

/-- R51: the key action `a` of seat `n` is presented, if its slot is still to come and no slot before it gives an action.
The slots before it are spent with it. -/
def State.present (s : State) (n : Nat) (a : KeyAct) (answer : State → Nat → State) : State :=
  match s.owed.actions with
  | none => s
  | some p =>
    let before := p.slots.takeWhile fun k => !k.isOf n a
    match p.slots.drop before.length with
    | [] => s
    | k :: rest =>
      if (before.all fun j => (s.deriveSlot j).isNone) && s.canReach a k then
        (before.foldl State.spend s).takeSlot p.sweep k rest answer
      else s

/-- R51: the slots in order, each giving its action or spent as it comes. -/
def State.presentSlots (sweep : Nat) : List KeySlot → State → State
  | [], s => s
  | k :: rest, s =>
    match s.deriveSlot k with
    | none => State.presentSlots sweep rest ((s.keepSlots sweep rest).spend k)
    | some a => State.presentSlots sweep rest ((s.keepSlots sweep rest).answer a k.seat sweep)

/-- R51, R79: the whole of a presentation still in progress is taken. -/
def State.presentAll (s : State) : State :=
  match s.owed.actions with
  | none => s
  | some p => (State.presentSlots p.sweep p.slots s).endPresentation

/-! ## The meanings -/

/-- REQUEST (R81 to R86). -/
def execRequest (n : Nat) (s : State) : Host.Outcome State Fault Refusal :=
  .next (s.present n .request fun s k => s.judgeRequest n k)

/-- WITHDRAW (R87). -/
def execWithdraw (n : Nat) (s : State) : Host.Outcome State Fault Refusal :=
  .next (s.present n .withdraw fun s _ => s.judgeWithdraw n)

/-- NEXT_ACTION (R90, R91). -/
def execNextAction (n : Nat) (s : State) : Host.Outcome State Fault Refusal :=
  .next (s.present n .next fun s _ => s.judgeNext)

/-- CANCEL_ACTION (R92). -/
def execCancelAction (n : Nat) (s : State) : Host.Outcome State Fault Refusal :=
  .next (s.present n .cancel fun s _ => s.judgeCancel)

/-- PRIORITY_HELD (R124, R125). -/
def execPriorityHeld (n : Nat) (s : State) : Host.Outcome State Fault Refusal :=
  .next (s.present n .priorityHeld fun s _ => s.judgePriorityHeld n)

/-- PRIORITY_RELEASED (R130, R131). -/
def execPriorityReleased (n : Nat) (s : State) : Host.Outcome State Fault Refusal :=
  .next (s.present n .priorityReleased fun s _ => s.judgePriorityReleased n)

end Sys2Proof.Machine
end

