-- ==== Sys2Proof/Machine/Sweep.lean ====
section
/-! DEFINITION. The loss and the return of sweeps, and what the seat monitor and the key filter make of them: LOST_SWEEP,
TRUNK_DOWN, SEAT_LOST and SWEEP_RETURNED (chapters 1 to 3). -/

namespace Sys2Proof.Machine

/-! ## Absence -/

/-- R32, R40, R158: a seat becomes absent: its filter is reset, its armed mark, mismatch count and pending mark are cleared.
Lockout, flag, table entry and the two commands are kept. -/
def Seat.lose (t : Seat) : Seat :=
  { t with present := false, silence := 0, keys := Keys.reset, armed := false, mismatch := 0, pendingSense := none }

/-! ## LOST_SWEEP and TRUNK_DOWN -/

/-- R33, R36, R40, R158: every seat is absent after the break, without notice, with its filter, armed mark, silence and mismatch count
and pending mark reset. -/
def State.loseAllSeats (s : State) : State := { s with seats := s.seats.map Seat.lose }

/-- R11, R12, R33, R98: the trunk break by the loss of sweep `k`: DOWN and TRUNK_DOWN first, then the blocks' responses. -/
def State.breakTrunk (s : State) (k : Nat) : State :=
  (({ s with trunk := .down }.raise (.trunkDown k)).loseAllSeats).breakFloor

/-- R11: the next loss takes the run of an UP trunk to 25. -/
def State.lossBreaks (s : State) : Bool := s.trunk == .up && Config.lostRunLimit ≤ s.lostRun + 1

/-- R10, R11: sweep `k` is declared lost; the 25th in a row breaks an UP trunk at once.
A record that a RESTART discarded has had a whole interval to come back and is looked for no longer (log entry 30). -/
def State.declareLost (s : State) (k : Nat) : State :=
  let s1 := { s with lostRun := min (s.lostRun + 1) Config.lostRunLimit, discarded := [] }
  if s.lossBreaks then s1.breakTrunk k else s1

/-- R10: a sweep whose loss the last interval start left to be declared. -/
def State.declareOwedLoss (s : State) : State :=
  match s.owed.lostSweep with
  | none => s
  | some k => (s.setOwed { s.owed with lostSweep := none }).declareLost k

/-- R10: at the end of an interval the awaited sweep, not having returned, is declared lost. -/
def State.declareAwaitedLoss (s : State) : State :=
  match s.awaiting with
  | none => s
  | some k => if s.frame = Config.framesPerInterval then { s with awaiting := none }.declareLost k else s

/-- R10: the lost sweep that is due to be declared, before or after the next emission (log entry 20). -/
def State.lostSweepStep (s : State) : State :=
  match s.owed.lostSweep with
  | some _ => s.declareOwedLoss
  | none => s.declareAwaitedLoss

/-- LOST_SWEEP (R10, R11). The loss that breaks the trunk is TRUNK_DOWN as well, and is taken by whichever command comes. -/
def execLostSweep (s : State) : Host.Outcome State Fault Refusal := .next s.lostSweepStep

/-- TRUNK_DOWN (R11, R12): the due loss, if it is the one that breaks the trunk. -/
def execTrunkDown (s : State) : Host.Outcome State Fault Refusal := .next (if s.lossBreaks then s.lostSweepStep else s)

/-! ## SEAT_LOST -/

/-- R32: the seats become absent, each raising SEAT_LOST. -/
def State.loseSeats (s : State) (lost : List Nat) : State :=
  lost.foldl (fun s n => (s.updSeat n Seat.lose).raise (.seatLost n)) s

/-- R32: the seats lost in the returned sweep: all become absent, and then all leave the floor (DEDUCED,
log entry 8). -/
def State.takeLosses (s : State) : State :=
  let lost := s.owed.losses.filter fun n => (s.seat n).present
  ((s.setOwed { s.owed with losses := [] }).loseSeats lost).takeOff lost .seatLost

/-- SEAT_LOST (R29, R32). -/
def execSeatLost (s : State) : Host.Outcome State Fault Refusal := .next s.takeLosses

/-! ## The key filter -/

/-- R38: one key's filter on a returned level, with the edge it makes: `some true` a press, `some false` a release. -/
def KeyState.filter (k : KeyState) (depth : Nat) (level : Bool) : KeyState × Option Bool :=
  if level = k.held then ({ k with agree := 0 }, none)
  else if k.agree + 1 < depth then ({ k with agree := k.agree + 1 }, none)
  else ({ held := level, agree := 0 }, some level)

/-- R38: the four keys of a seat after an answered entry. -/
def Keys.filter (k : Keys) (depth : Nat) (u : UpHalf) : Keys :=
  { talk := (k.talk.filter depth u.talk).1, priority := (k.priority.filter depth u.priority).1,
    next := (k.next.filter depth u.next).1, cancel := (k.cancel.filter depth u.cancel).1 }

/-- R46: the armed mark after the PRIORITY key's edge of this entry, if it made one. -/
def Seat.armedAfter (t : Seat) (edge : Option Bool) : Bool :=
  match edge with
  | some true => t.config.enabled && t.config.cls == .chair && !t.flagged
  | some false => false
  | none => t.armed

/-- R28, R31, R38, R46: a seat that answered: found if it was absent, its keys filtered and its mark armed or cleared. -/
def Seat.answered (t : Seat) (depth : Nat) (u : UpHalf) : Seat :=
  { t with
    present := true, silence := 0, keys := t.keys.filter depth u,
    armed := t.armedAfter (t.keys.priority.filter depth u.priority).2 }

/-- R29: the seat's silence count would reach the presence timeout: the seat is due to be lost. -/
def Seat.isDueLost (t : Seat) (timeout : Nat) (u : UpHalf) : Bool :=
  t.present && !u.answered && timeout ≤ t.silence + 1

/-- R28, R29, R38, R39: a seat after its entry of a returned sweep. The increment that reaches the presence timeout is taken
with the loss it brings (SEAT_LOST). -/
def Seat.swept (t : Seat) (m : Settings) (u : UpHalf) : Seat :=
  if u.answered then t.answered m.filterDepth u
  else if t.present && !t.isDueLost m.presenceTimeout u then { t with silence := t.silence + 1 }
  else t

/-- R38, R39: the edge one key makes in an entry; an unanswered entry makes none. -/
def UpHalf.edge (u : UpHalf) (depth : Nat) (k : KeyState) (level : Bool) : Option Bool :=
  if u.answered then (k.filter depth level).2 else none

/-- R51: the material of a seat's actions in its order of presentation, `t` the seat before the entry and `u` its entry.
A seat that this sweep is to lose has no edge, its entry being unanswered (R31); its held and armed PRIORITY level is examined like that
of any present seat (R46), before its absence or after it, in which case it gives no action (R34; DEDUCED, log entry 21). -/
def Seat.events (t : Seat) (m : Settings) (u : UpHalf) : List KeyEvent :=
  let t1 := t.swept m u
  let k := m.filterDepth
  (if u.edge k t.keys.priority u.priority = some false ∧ t.armed then [.priorityRelease] else [])
    ++ ((u.edge k t.keys.talk u.talk).map KeyEvent.talk).toList
    ++ (if u.edge k t.keys.next u.next = some true then [.nextPress] else [])
    ++ (if u.edge k t.keys.cancel u.cancel = some true then [.cancelPress] else [])
    ++ (if t1.present ∧ t1.keys.priority.held ∧ t1.armed then [.priorityLevel] else [])

/-! ## SWEEP_RETURNED -/

/-- R9: the entries of a record beside their seats, seat 1 first; a seat without an entry is unanswered. -/
def pairUp : List Seat → List UpHalf → List (Seat × UpHalf)
  | [], _ => []
  | t :: ts, [] => (t, UpHalf.unanswered) :: pairUp ts []
  | t :: ts, u :: us => (t, u) :: pairUp ts us

/-- The seat numbers, from `n` on, of the entries that meet a condition. -/
def numbersOf (p : Seat × UpHalf → Bool) : Nat → List (Seat × UpHalf) → List Nat
  | _, [] => []
  | n, x :: xs => if p x then n :: numbersOf p (n + 1) xs else numbersOf p (n + 1) xs

/-- R51: the presentation slots of each seat, from seat `n` on. -/
def slotsFrom (m : Settings) : Nat → List (Seat × UpHalf) → List (List KeySlot)
  | _, [] => []
  | n, x :: xs => ((x.1.events m x.2).map fun e => { seat := n, event := e }) :: slotsFrom m (n + 1) xs

/-- R51, R79: the slots of all seats in rotation order from the pointer's seat. -/
def rotationSlots (pointer : Nat) (perSeat : List (List KeySlot)) : List KeySlot :=
  (perSeat.drop (pointer - 1) ++ perSeat.take (pointer - 1)).flatten

/-- R7, R152: the answered entries as the audit compares them, with the last command sent as it stands at the return. -/
def auditEntries : Nat → List (Seat × UpHalf) → List AuditEntry
  | _, [] => []
  | n, x :: xs =>
    if x.2.answered then
      { seat := n, commandedOpen := x.1.lastSent.chan.isSome, reportedOpen := x.2.live } :: auditEntries (n + 1) xs
    else auditEntries (n + 1) xs

/-- R8, R11: the return reaches the trunk state: the run count is 0, and a DOWN trunk comes UP with TRUNK_UP. -/
def State.trunkReturned (s : State) (sweep : Nat) : State :=
  match s.trunk with
  | .up => { s with lostRun := 0 }
  | .down => { s with lostRun := 0, trunk := .up }.raise (.trunkUp sweep)

/-- R28: SEAT_FOUND for every absent seat that answered, ascending. -/
def State.raiseFound (s : State) (found : List Nat) : State := found.foldl (fun s n => s.raise (.seatFound n)) s

/-- R9: the entries of the record are handed to the seat monitor, the key filter and the audit. The key actions, the losses
and the audit's work they give rise to become due.
Every SEAT_FOUND of the sweep is raised here, so before any SEAT_LOST of it: R28, R31 and R32 give no order between the two
(DESIGN CHOICE, log entry 34). -/
def State.handEntries (s : State) (sweep : Nat) (ups : List UpHalf) : State :=
  let pairs := pairUp s.seats ups
  let m := s.settings
  let s1 := s.raiseFound (numbersOf (fun x => x.2.answered && !x.1.present) 1 pairs)
  { s1 with
    seats := pairs.map fun x => x.1.swept m x.2,
    owed := { s1.owed with
      actions := some { sweep := sweep, slots := rotationSlots s.rotation (slotsFrom m 1 pairs) },
      losses := numbersOf (fun x => x.1.isDueLost m.presenceTimeout x.2) 1 pairs,
      audit := some (auditEntries 1 pairs) } }

/-- What an earlier sweep has left due: its loss, or the key actions, losses and audit of its return. The first frame period of
the next interval and the return of the next sweep find them taken (R10, R154; DEDUCED, log entry 4). -/
def State.settleSweep (s : State) : State := s.declareOwedLoss.presentAll.takeLosses.takeAudit

/-- R8, R9: the return of a sweep, if one is due to be handed on. -/
def State.takeReturn (s : State) : State :=
  match s.owed.returned with
  | none => s
  | some r =>
    (((s.setOwed { s.owed with returned := none }).settleSweep.trunkReturned r.sweep).handEntries r.sweep
      r.ups).closePresentation

/-- SWEEP_RETURNED (R8, R9). -/
def execSweepReturned (s : State) : Host.Outcome State Fault Refusal := .next s.takeReturn

end Sys2Proof.Machine
end

