-- ==== Sys2Proof/Machine/Interval.lean ====
section
/-! DEFINITION. The start of a sweep interval: SWEEP_INTERVAL_START, BLINK_PHASE_TOGGLE and LOCKOUT_EXPIRY (R4 to R7, R49,
R111, R115). -/

namespace Sys2Proof.Machine

/-! ## Emission -/

/-- R6: the down half of a seat's entry as it stands at the emission: the first row that fits.
A report taken before the emission has made the seat flagged, so the sweep carries FAULT/none; one taken after it has not, so
the sweep carries the earlier command. That is R6's and R157's reading; the last row of R160's table, read by its column heads,
has it the other way round (DESIGN CHOICE, log entry 28). -/
def State.compose (s : State) (t : Seat) : Command :=
  if t.flagged then { lamp := .fault, chan := none }
  else
    match t.bound with
    | some .p => if (s.chan .p).state = .live then { lamp := .priority, chan := some .p } else Command.off
    | some c =>
      if (s.chan c).state = .live then { lamp := if (s.chan c).warned then .warning else .live, chan := some c }
      else Command.off
    | none => if t.place = .waiting then { lamp := .waiting, chan := none } else Command.off

/-- R7: at an emission the last command sent takes the command in flight, which takes the new down half. -/
def Seat.emit (t : Seat) (c : Command) : Seat := { t with lastSent := t.inFlight, inFlight := c }

/-- R8: `left` byte positions of a record are to be passed over before a marker is sought. -/
def Scan.passOver (left : Nat) : Scan := if left = 0 then .seeking else .passing left

/-- R8, R16: the discarded record that the candidate `got`, latest byte first, may be, with those behind it: it bears the candidate's
number and more of it was sent than has come. Before the header is complete it is the oldest (log entry 30). -/
def State.underWay (s : State) (got : List Byte) : List Discarded :=
  s.discarded.dropWhile fun d =>
    ¬(got.length < Config.headerBytes ∨ (d.number = wordAt got.reverse 2 ∧ got.length < d.bytes))

/-- R8, R16: the discarded record of the candidate's number that was cut off after as many bytes as have come, with those behind it
(log entry 30). -/
def State.cutHere (s : State) (got : List Byte) : List Discarded :=
  s.discarded.dropWhile fun d =>
    ¬(Config.headerBytes ≤ got.length ∧ d.number = wordAt got.reverse 2 ∧ d.bytes = got.length)

/-- R8: the scan at a new emission: what is left of a candidate under way, its first byte having come before, is passed over.
A record that began after the candidate was over, or inside the 804 bytes of a candidate that itself began at a stray B4h, is not
followed: if it is still under way when the candidate's positions have passed, a marker is sought in its tail (DESIGN CHOICE, log
entry 31). -/
def Scan.atEmission : Scan → Scan
  | .seeking => .seeking
  | .taking got => .passOver (Config.recordBytes - got.length)
  | .finished left => .passOver left
  | .passing left => .passing left

/-- R5: after the emission the blink count advances; the advance that would reach 125 is BLINK_PHASE_TOGGLE. -/
def State.advanceBlink (s : State) : State :=
  if s.blinkCount + 1 < Config.blinkPeriod then { s with blinkCount := s.blinkCount + 1 }
  else s.setOwed { s.owed with blink := true }

/-- R4 to R8: the emission of a sweep, which begins the interval.
A sweep still awaited has not returned: its loss becomes due (R10). -/
def State.emitSweep (s : State) : State :=
  let commands := s.seats.map s.compose
  { s with
    stream := recordOf s.blinkOn s.sweepNumber commands,
    seats := s.seats.map fun (t : Seat) => t.emit (s.compose t),
    sweepNumber := (s.sweepNumber + 1) % Config.sweepModulus, lastEmitted := s.sweepNumber,
    awaiting := some s.sweepNumber, scan := s.scan.atEmission, frame := 0,
    owed := { s.owed with lostSweep := s.awaiting } }.advanceBlink

/-! ## Counts -/

/-- R111: the held count of a LIVE channel increments up to its cap. -/
def Channel.countHeld (c : Channel) : Channel :=
  if c.state = .live then { c with held := min (c.held + 1) Config.heldMax } else c

/-- R111: every LIVE channel's held count increments. -/
def State.countHeld (s : State) : State :=
  { s with channels := PerChan.tabulate fun c => (s.chan c).countHeld }

/-- R49: a lockout above 1 decrements; the decrement to 0 is LOCKOUT_EXPIRY. -/
def Seat.countLockout (t : Seat) : Seat := if 1 < t.lockout then { t with lockout := t.lockout - 1 } else t

/-- R49: the seats whose lockout this interval start brings to 0. -/
def State.expiringLockouts (s : State) : List Nat := seatNumbers.filter fun n => (s.seat n).lockout == 1

/-- R49: every lockout above 0 decrements; those that reach 0 become due. -/
def State.countLockouts (s : State) : State :=
  { s with seats := s.seats.map Seat.countLockout, owed := { s.owed with lockouts := s.expiringLockouts } }

/-- R115: the timers that this interval start decrements: LIVE ordinary channels, timed, above 0, not suspended. -/
def State.runningTimers (s : State) : List Chan :=
  if s.suspended then []
  else ordinaryChans.filter fun c =>
    (s.chan c).state == .live && (match (s.chan c).remaining with | some (_ + 1) => true | _ => false)

/-- R115: one running timer: a decrement that leaves it above 0 is taken; the one that brings it to 0 becomes due as
EXPIRED or TIME_OVER. -/
def State.countTimer (s : State) (c : Chan) : State :=
  if (s.chan c).remaining = some 1 then s.setOwed { s.owed with timers := s.owed.timers ++ [c] } else s.tick c

/-- R115: every running timer, channel 1 first. -/
def State.countTimers (s : State) : State := s.runningTimers.foldl State.countTimer s

/-- R49, R111, R115: the counts of an interval start. -/
def State.countInterval (s : State) : State := s.countHeld.countLockouts.countTimers

/-! ## What an interval start leaves due -/

/-- R5: the toggle of the blink phase, if it is due. -/
def State.takeBlink (s : State) : State :=
  if s.owed.blink then { s.setOwed { s.owed with blink := false } with blinkCount := 0, blinkOn := !s.blinkOn } else s

/-- R49: the lockout of seat `n` reaches 0, if that is due. -/
def State.takeLockout (s : State) (n : Nat) : State :=
  if s.owed.lockouts.contains n then
    (s.updSeat n fun t => { t with lockout := t.lockout - 1 }).setOwed
      { s.owed with lockouts := s.owed.lockouts.filter fun m => m != n }
  else s

/-- R49: every lockout due to reach 0. -/
def State.takeLockouts (s : State) : State := s.owed.lockouts.foldl State.takeLockout s

/-- R115: the decrement of channel `c`, if it is due. -/
def State.takeTimer (s : State) (c : Chan) : State := if s.owed.timers.contains c then s.tick c else s

/-- R115, R122: every timer due to reach 0, each End taken whole with its fill. -/
def State.takeTimers (s : State) : State := s.owed.timers.foldl State.takeTimer s

/-- BLINK_PHASE_TOGGLE (R5). -/
def execBlinkPhaseToggle (s : State) : Host.Outcome State Fault Refusal := .next s.takeBlink

/-- LOCKOUT_EXPIRY (R49). -/
def execLockoutExpiry (n : Nat) (s : State) : Host.Outcome State Fault Refusal := .next (s.takeLockout n)

/-! ## SWEEP_INTERVAL_START -/

/-- What stands due from the last interval: its toggle, lockouts and timers, the loss of an earlier sweep, and the return of
the sweep it awaited. The next interval start finds them taken (DEDUCED, log entry 4). -/
def State.settleInterval (s : State) : State := s.takeBlink.takeLockouts.takeTimers.declareOwedLoss.takeReturn

/-- R6, R115: the emission and the counts in the given order.
Counts taken first are taken whole, those that reach 0 among them, so that the sweep carries what they change. -/
def State.beginInterval (s : State) : IntervalOrder → State
  | .emissionFirst => s.emitSweep.countInterval
  | .countsFirst => s.countInterval.takeLockouts.takeTimers.emitSweep

/-- R4: the next interval begins, if the last one's 96 frame periods have passed (or none has begun since reset). -/
def State.startInterval (s : State) (order : IntervalOrder) : State :=
  if s.frame = Config.framesPerInterval then s.settleInterval.beginInterval order else s

/-- SWEEP_INTERVAL_START (R4). -/
def execSweepIntervalStart (order : IntervalOrder) (s : State) : Host.Outcome State Fault Refusal :=
  .next (s.startInterval order)

end Sys2Proof.Machine
end

