-- ==== Sys2Proof/Machine/Messages.lean ====
section
/-! DEFINITION. The message unit: the incoming stream and the input buffer (MESSAGE_HEADER, DIRECTIVE_COMPLETE,
SKIP_ENTRY_DISPATCH, UNKNOWN_KIND), the outgoing stream (MESSAGE_START, MESSAGE_SENT), and SET_GENERAL and RESTART
(chapter 10). -/

namespace Sys2Proof.Machine

/-! ## The incoming stream -/

/-- R163: the bytes an entry holds: a skip entry its header, any other its header and the body bytes that have arrived. -/
def Entry.heldBytes (e : Entry) : Nat := if e.skip then 3 else 3 + e.body.length

/-- R163: the bytes the input buffer holds. -/
def State.bytesHeld (s : State) : Nat := (s.buffer.map Entry.heldBytes).sum

/-- R163: the free space of the input buffer. -/
def State.freeBytes (s : State) : Nat := Config.bufferBytes - s.bytesHeld

/-- R161: the position in the stream when `left` body bytes are still to come. -/
def rxAfter (left : Nat) (use : BodyUse) : RxPos := if left = 0 then .between else .body left use

/-- R163: a header begins an entry of the input buffer: the whole message, or a skip entry of the header alone. -/
def State.addEntry (s : State) (kind tag len : Byte) (skip : Bool) (left : Nat) (use : BodyUse) : State :=
  { s with
    buffer := s.buffer ++ [{ kind := kind, tag := tag, len := len, skip := skip, body := [], complete := left == 0,
                             decoded := none }],
    rx := rxAfter left use }

/-- R163: the header's message is judged against the free space: kept whole, kept as a skip entry, or dropped.
A header whose message RESTART has cut off is dropped whatever the free space (R170).
A body length above 250 counts off 250 bytes (R161). -/
def State.judgeHeader (s : State) (kind tag len : Byte) (discard : Bool) : State :=
  let left := min len.toNat Config.bodyMax
  if discard then { s with rx := rxAfter left .drop }
  else if 3 + left ≤ s.freeBytes then s.addEntry kind tag len false left .whole
  else if 3 ≤ s.freeBytes then s.addEntry kind tag len true left .skip
  else { s with rx := rxAfter left .drop }

/-- R163: the header that has arrived is judged, if one has. -/
def State.takeHeader (s : State) : State :=
  match s.rx with
  | .header [kind, tag, len] discard => s.judgeHeader kind tag len discard
  | _ => s

/-- MESSAGE_HEADER (R161, R163). -/
def execMessageHeader (s : State) : Host.Outcome State Fault Refusal := .next s.takeHeader

/-- The last element of a list changed by `f`. -/
def modifyLast {α : Type} (f : α → α) : List α → List α
  | [] => []
  | [a] => [f a]
  | a :: b :: rest => a :: modifyLast f (b :: rest)

/-- R163: a body byte joins the entry being kept whole; the last byte completes the message. -/
def Entry.receive (e : Entry) (b : Byte) (last : Bool) : Entry :=
  { e with body := e.body ++ [b], complete := last }

/-- R161, R163: a body byte, of which `left` are still to come with this one. A skip entry is complete with its
last body byte (DEDUCED, log entry 15). -/
def State.takeBodyByte (s : State) (b : Byte) (left : Nat) (use : BodyUse) : State :=
  let rx := rxAfter (left - 1) use
  let last := left ≤ 1
  match use with
  | .whole => { s with rx := rx, buffer := modifyLast (fun e => e.receive b last) s.buffer }
  | .skip => { s with rx := rx, buffer := modifyLast (fun e => { e with complete := last }) s.buffer }
  | .drop => { s with rx := rx }

/-- R161: one byte of the incoming stream. A header that is still to be judged is judged before the next byte is read. -/
def State.takeByte (s : State) (b : Byte) : State :=
  let s1 := s.takeHeader
  match s1.rx with
  | .between => if b = 0 then s1 else { s1 with rx := .header [b] false }
  | .header got discard => { s1 with rx := .header (got ++ [b]) discard }
  | .body left use => s1.takeBodyByte b left use

/-- R14, R163: when the head link unlocks, a directive that has been partly received is discarded without a reply and its
entry, whole or skip, is removed. The next lock begins between messages. -/
def State.dropPartial (s : State) : State :=
  { s with rx := .between, buffer := s.buffer.filter fun e => e.complete }

/-- R162: the oldest complete directive that is not yet decoded is decoded. -/
def decodeOldest : List Entry → List Entry
  | [] => []
  | e :: rest =>
    if e.complete ∧ e.skip = false ∧ e.decoded = none then
      { e with decoded := some (decodeMessage e.kind e.len e.body) } :: rest
    else e :: decodeOldest rest

/-- DIRECTIVE_COMPLETE (R162). -/
def execDirectiveComplete (s : State) : Host.Outcome State Fault Refusal :=
  .next { s with buffer := decodeOldest s.buffer }

/-! ## Entries that no owner takes -/

/-- R164: a skip entry is answered REFUSED (tag, OVERRUN). -/
def State.dispatchSkip (s : State) : State :=
  match s.oldest with
  | none => s
  | some (e, s1) => if e.skip then s1.reply e.tag (.refused .overrun) else s

/-- SKIP_ENTRY_DISPATCH (R164). -/
def execSkipEntryDispatch (s : State) : Host.Outcome State Fault Refusal := .next s.dispatchSkip

/-- R162, R164: a directive whose kind is outside the table is answered REFUSED (tag, UNKNOWN_KIND). -/
def State.dispatchUnknown (s : State) : State :=
  match s.oldest with
  | none => s
  | some (e, s1) =>
    if e.skip = false ∧ knownKind e.kind.toNat = false then s1.reply e.tag (.refused .unknownKind) else s

/-- UNKNOWN_KIND (R162, R164). -/
def execUnknownKind (s : State) : Host.Outcome State Fault Refusal := .next s.dispatchUnknown

/-! ## SET_GENERAL -/

/-- R79, R168: an accepted SET_GENERAL. -/
def State.setGeneral (s : State) (tag : Byte) (r : GeneralRecord) : State :=
  { s with settings := r.settings, rotation := r.rotation.getD s.rotation }.fill.reply tag .done

/-- SET_GENERAL (R168). -/
def execSetGeneral (s : State) : Host.Outcome State Fault Refusal :=
  .next (s.dispatch 3 fun s tag d =>
    match d with
    | .setGeneral r => s.setGeneral tag r
    | _ => s)

/-! ## RESTART -/

/-- R170: the message whose bytes are arriving goes on being counted off, its bytes discarded without a reply. -/
def RxPos.cut : RxPos → RxPos
  | .between => .between
  | .header got _ => .header got true
  | .body left _ => .body left .drop

/-- R16: the awaited sweep's record as a RESTART cuts it off, if any of it has been sent. -/
def State.cutRecord (s : State) : List Discarded :=
  let sent := Config.recordBytes - s.stream.length
  match s.awaiting with
  | none => []
  | some k => if sent = 0 then [] else [{ number := k, bytes := sent }]

/-- R8, R16: the scan of trunk-return after a RESTART, and the records to be disregarded when they come. What the chain still carries
of the record whose bytes have begun to come back is passed over, and the next record follows it directly; the awaited sweep's
record is remembered where no candidate is under way or over, or the one under way may be an earlier remembered record (log entries
11 and 30). Any other candidate under way or over is taken to be the awaited sweep's own record, also where it began at a stray B4h or
bears another number: what is left of that record's sent bytes is passed over, and the record is not remembered
(DESIGN CHOICE, log entry 32). -/
def State.cutScan (s : State) : Scan × List Discarded :=
  match s.scan with
  | .seeking => (.seeking, s.discarded ++ s.cutRecord)
  | .taking got =>
    match s.underWay got with
    | [] => (.passOver (Config.recordBytes - got.length - s.stream.length), s.discarded)
    | d :: later => (.passOver (d.bytes - got.length), later ++ s.cutRecord)
  | .finished left => (.passOver (left - s.stream.length), s.discarded)
  | .passing left => (.passing left, s.discarded ++ s.cutRecord)

/-- R16, R170: the part after a RESTART: every block at its value after pin reset but for the head interface, the position
in the incoming stream and the message being sent, which is held apart from the emptied queues.
What the chain still carries of the discarded sweep is disregarded when it comes back, and the ports hold what they last sent
(DEDUCED, log entry 11). -/
def State.restart (s : State) (tag : Byte) : State :=
  { State.reset with
    link := s.link, lockCount := s.lockCount, program := s.program, scan := s.cutScan.1,
    discarded := s.cutScan.2,
    rx := s.rx.cut, sending := s.sending.map fun m => { m with source := .apart },
    replies := [{ tag := tag, body := .done }],
    trunkOut := s.trunkOut, headOut := s.headOut,
    owed := { Owed.reset with unlock := s.owed.unlock }, pending := s.pending }

/-- RESTART (R170). -/
def execRestart (s : State) : Host.Outcome State Fault Refusal :=
  .next (s.dispatch 16 fun s tag d =>
    match d with
    | .restart => s.restart tag
    | _ => s)

/-! ## The outgoing stream -/

/-- R165: at a message boundary while LOCKED the oldest reply, or else the oldest notice, begins to be sent. -/
def State.startMessage (s : State) : State :=
  if s.link = .locked ∧ s.sending = none then
    match s.replies, s.notices with
    | r :: _, _ => { s with sending := some { source := .reply, rest := r.bytes } }
    | [], n :: _ => { s with sending := some { source := .notice, rest := n.bytes } }
    | [], [] => s
  else s

/-- MESSAGE_START (R165). -/
def execMessageStart (s : State) : Host.Outcome State Fault Refusal := .next s.startMessage

/-- R165, R166, R170: a message whose last byte has been sent leaves the queue it came from. -/
def State.finishMessage (s : State) : State :=
  match s.sending with
  | some { source := .reply, rest := [] } => { s with sending := none, replies := s.replies.tail }
  | some { source := .notice, rest := [] } => { s with sending := none }.departNotice
  | some { source := .apart, rest := [] } => { s with sending := none }
  | _ => s

/-- MESSAGE_SENT (R165, R166): the frame period that sends a last byte takes it at once (log entry 36). -/
def execMessageSent (s : State) : Host.Outcome State Fault Refusal := .next s.finishMessage

/-- R165: the next byte of the message being sent, or idle 00h when nothing is being sent. -/
def State.nextByte (s : State) : Byte :=
  match s.sending with
  | some { rest := b :: _, .. } => b
  | _ => 0

/-- R165, R166: the byte has been sent. A message whose last byte it was leaves its queue with it, so that MESSAGE_SENT is not left due
(DEDUCED, log entry 36). -/
def State.byteSent (s : State) : State :=
  State.finishMessage { s with sending := s.sending.map fun m => { m with rest := m.rest.tail } }

/-- R165: what must stand before a byte position of the outgoing stream: no message sent to its end is left in its queue, and at a
boundary the next has been chosen. -/
def State.readyByte (s : State) : State := s.finishMessage.startMessage

end Sys2Proof.Machine
end

