-- ==== Sys2Proof/Machine/Frame.lean ====
section
/-! DEFINITION. Pin reset and the frame period: PIN_RESET, FRAME_PERIOD, HEAD_LINK_LOCK and HEAD_LINK_UNLOCK (chapters 1
and 8). -/

namespace Sys2Proof.Machine

/-! ## PIN_RESET -/

/-- PIN_RESET (R16): every block in its reset state; the commands that wait go on waiting. -/
def execPinReset (s : State) : Host.Outcome State Fault Refusal := .next { State.reset with pending := s.pending }

/-! ## The head link -/

/-- R13, R14: the lock count stands at 48: LOCKED, lock count 0, both message streams between messages. -/
def State.takeLock (s : State) : State :=
  if s.link = .unlocked ∧ s.lockCount = Config.lockFrames then
    { s with link := .locked, lockCount := 0, rx := .between, sending := none }
  else s

/-- HEAD_LINK_LOCK (R13, R14). -/
def execHeadLinkLock (s : State) : Host.Outcome State Fault Refusal := .next s.takeLock

/-- R13, R14, R163: a frame period has passed without an in-step head frame: UNLOCKED, lock count 0, the partly received
directive discarded, the partly sent message left at the head of its queue.
A header still to be judged is judged first: with it a directive without a body is complete and stays (R161, R163).
A message whose last byte has been sent leaves its queue first: it is not partly sent (R165). DEDUCED, log entry 12. -/
def State.takeUnlock (s : State) : State :=
  if s.owed.unlock then
    { (s.setOwed { s.owed with unlock := false }).takeHeader.finishMessage.dropPartial with
      link := .unlocked, lockCount := 0, sending := none }
  else s

/-- HEAD_LINK_UNLOCK (R13, R14). -/
def execHeadLinkUnlock (s : State) : Host.Outcome State Fault Refusal := .next s.takeUnlock

/-! ## The gain stage -/

/-- R139: the level of the seat a channel is bound to. -/
def State.boundLevel (s : State) (c : Chan) : Nat :=
  match (s.chan c).seat with
  | none => 0
  | some n => (s.seat n).config.level

/-- R139: the duck depth of the active context. -/
def State.duckDepth (s : State) : Nat := (s.active.map Context.duckDepth).getD Config.unity

/-- R139: the target of a channel: the first row that fits. -/
def State.target (s : State) (c : Chan) : Nat :=
  match (s.chan c).state with
  | .free => 0
  | .releasing => 0
  | .live =>
    if c.isOrdinary ∧ s.floor = .held then s.boundLevel c * s.duckDepth / Config.unity else s.boundLevel c

/-- R141: the step size of a ramp length. -/
def stepSize (rampLength : Nat) : Nat := Config.unity / rampLength

/-- R142: one step of a gain toward its target. -/
def rampStep (size target gain : Nat) : Nat :=
  if gain < target then min (gain + size) target
  else if target < gain then max (gain - size) target
  else gain

/-- R138, steps 1 and 2: a channel's target and gain after the frame step. A FREE channel's gain is held at 0 (R139). -/
def State.rampGain (s : State) (c : Chan) : Gain :=
  let t := s.target c
  { target := t,
    current := if (s.chan c).state = .free then 0 else rampStep (stepSize s.settings.rampLength) t (s.gain c).current }

/-- R144: the gain stage reports a RELEASING channel whose gain is 0, once. -/
def State.reports (s : State) (c : Chan) : Bool :=
  (s.chan c).state == .releasing && (s.gain c).current == 0 && !s.owed.freed.contains c

/-- R138, R144: the frame step of the nine gains and the reports it makes, recorded from channel 1 up to P (DESIGN CHOICE, log
entry 33). -/
def State.stepGains (s : State) : State :=
  let s1 := { s with gains := PerChan.tabulate s.rampGain }
  s1.setOwed { s1.owed with freed := s1.owed.freed ++ allChans.filter s1.reports }

/-- R145: a sample scaled by a gain, an exact half rounded toward +∞. -/
def gate (x : Sample) (gain : Nat) : Int := (x.toInt * gain + 16384) / 32768

/-- R145: the gated sample of a channel: 0 on a FREE channel. -/
def State.gated (s : State) (x : PerChan Sample) (c : Chan) : Int :=
  if (s.chan c).state = .free then 0 else gate (x.get c) (s.gain c).current

/-- 00_scope 0.8: a sum saturated to the sample range. -/
def saturate (n : Int) : Int := max (-8388608) (min n 8388607)

/-- R147: the floor mix: the sum of the nine gated samples, formed in full and then saturated. -/
def mixOf (y : PerChan Int) : Int := saturate y.toList.sum

/-- R17: a value within the sample range as a 24-bit word. -/
def toSample (n : Int) : Sample := BitVec.ofInt 24 n

/-! ## The trunk side of a frame period -/

/-- R2: the program samples of the trunk-out frame: those of the head frame before, 0 while UNLOCKED. -/
def State.programOut (s : State) : Sample × Sample := if s.link = .locked then s.program else (0, 0)

/-- R1, R4: one trunk frame is emitted, with the next twelve sweep-stream bytes. -/
def State.emitFrame (s : State) : State :=
  { s with
    trunkOut := trunkFrame s.programOut (nextStreamBytes s.stream),
    stream := s.stream.drop Config.streamBytesPerFrame, frame := s.frame + 1 }

/-- R8: a complete candidate, latest byte first, is judged: with the number emitted the sweep is returned.
What a RESTART discarded would have come before it. -/
def State.judgeCandidate (s : State) (got : List Byte) : State :=
  let record := got.reverse
  let s1 := { s with scan := .finished 0, discarded := [] }
  match s.awaiting with
  | none => s1
  | some k =>
    if wordAt record 2 = k then
      { s1 with awaiting := none, owed := { s1.owed with returned := some { sweep := k, ups := upHalvesOf (record.drop 4) } } }
    else s1

/-- R8, R16: a header has arrived, latest byte first. With the awaited number the record is the candidate. With another number, that
of a record that a RESTART discarded, it begins that record, which is passed over (DESIGN CHOICE, log entry 30). -/
def State.meetHeader (s : State) (got : List Byte) : State :=
  if s.awaiting = some (wordAt got.reverse 2) then { s with scan := .taking got }
  else
    match s.discarded.dropWhile fun d => d.number != wordAt got.reverse 2 with
    | [] => { s with scan := .taking got }
    | d :: later => { s with scan := .passOver (d.bytes - Config.headerBytes), discarded := later }

/-- R8: a byte of the candidate, whose bytes so far are `got`, latest first. -/
def State.takeCandidate (s : State) (got : List Byte) (b : Byte) : State :=
  if got.length + 1 = Config.headerBytes then s.meetHeader (b :: got)
  else if got.length + 1 < Config.recordBytes then { s with scan := .taking (b :: got) }
  else s.judgeCandidate (b :: got)

/-- R8: one sweep-stream byte arrives on trunk-return. A marker where a discarded record of the candidate's number was cut off shows
that the candidate was that record, and begins the next one: in a record of its own that byte is a lamp command (R7, R17; DESIGN
CHOICE, log entry 30). -/
def State.scanByte (s : State) (b : Byte) : State :=
  match s.scan with
  | .seeking => if b = 0xB4#8 then { s with scan := .taking [b] } else s
  | .taking got =>
    match s.cutHere got with
    | [] => s.takeCandidate got b
    | _ :: later => if b = 0xB4#8 then { s with scan := .taking [b], discarded := later } else s.takeCandidate got b
  | .finished left => { s with scan := .finished (left - 1) }
  | .passing left => { s with scan := .passOver (left - 1) }

/-- R8, R10: a frame period with no returned frame: twelve byte positions of trunk-return pass without a byte.
A candidate under way has lost bytes of its own and is not complete (DEDUCED, log entry 9); one that may be a discarded record is
taken for it, and passed over to the end of what was sent of it (DESIGN CHOICE, log entry 30). -/
def State.scanGap (s : State) : State :=
  match s.scan with
  | .seeking => s
  | .taking got =>
    match s.underWay got with
    | [] => { s with scan := .finished (Config.recordBytes - got.length - Config.streamBytesPerFrame) }
    | d :: later => { s with scan := .passOver (d.bytes - got.length - Config.streamBytesPerFrame), discarded := later }
  | .finished left => { s with scan := .finished (left - Config.streamBytesPerFrame) }
  | .passing left => { s with scan := .passOver (left - Config.streamBytesPerFrame) }

/-- R8: what trunk-return brings in a frame period. -/
def State.scanFrame (s : State) : Option (List Byte) → State
  | none => s.scanGap
  | some b => (streamOf b).foldl State.scanByte s

/-! ## The head side of a frame period -/

/-- R15, R148: the ten audio values of the frame step: the nine gated samples and the floor mix. -/
def State.headAudio (s : State) (x : PerChan Sample) : PerChan Sample × Sample :=
  (PerChan.tabulate fun c => toSample (s.gated x c), toSample (mixOf (PerChan.tabulate (s.gated x))))

/-- R15, R165: the head frame is sent while LOCKED: the audio, two outgoing message bytes, the link state. -/
def State.sendLocked (s : State) (x : PerChan Sample) : State :=
  let audio := s.headAudio x
  let s1 := s.readyByte
  let s2 := s1.byteSent.readyByte
  { s2.byteSent with headOut := headFrame audio.1 audio.2 s1.nextByte s2.nextByte .locked }

/-- R14, R15: the head frame is sent while UNLOCKED: audio 0, idle message bytes, the link state. -/
def State.sendUnlocked (s : State) : State := { s with headOut := headFrame (PerChan.all 0) 0 0 0 .unlocked }

/-- R15: one head frame is sent in every frame period. -/
def State.sendHeadFrame (s : State) (x : PerChan Sample) : State :=
  match s.link with
  | .locked => s.sendLocked x
  | .unlocked => s.sendUnlocked

/-- R2, R13 to R15: an in-step head frame: its program samples are kept for the next trunk frame; while LOCKED its two
message bytes go to the message unit, while UNLOCKED the lock count increments, standing at 48 until the
link locks (DESIGN CHOICE, log entry 13). -/
def State.takeHeadFrame (s : State) (b : List Byte) : State :=
  let s1 := { s with program := programOf b }
  match s.link with
  | .locked => (s1.takeByte (messageBytesOf b).1).takeByte (messageBytesOf b).2
  | .unlocked => { s1 with lockCount := min (s.lockCount + 1) Config.lockFrames }

/-- R13: a frame period without an in-step head frame: a lock is due to be lost, a lock count returns to 0. -/
def State.missHeadFrame (s : State) : State :=
  match s.link with
  | .locked => { s with program := (0, 0), owed := { s.owed with unlock := true } }
  | .unlocked => { s with program := (0, 0), lockCount := 0 }

/-- R13: the head frame completed in step in this frame period, or none. -/
def State.headIn (s : State) : Option (List Byte) → State
  | none => s.missHeadFrame
  | some b => s.takeHeadFrame b

/-! ## FRAME_PERIOD -/

/-- R10, R154: the first frame period of an interval finds the sweep of the interval before dealt with: its loss declared, or its
key actions, losses and audit taken. -/
def State.settleFirst (s : State) : State := if s.frame = 0 then s.settleSweep else s

/-- R4, R10, R13, R144: what must stand before a frame period: the link transition and the freed channels that the last one
brought are taken (DEDUCED, log entry 4); where the last interval's 96 frame periods have passed the next interval begins,
emission first (DESIGN CHOICE, log entry 6). -/
def State.beforeFrame (s : State) : State :=
  ((s.takeLock.takeUnlock.takeAllFreed).startInterval .emissionFirst).settleFirst

/-- R1, R3, R13, R138: the frame period itself. -/
def State.framePeriod (s : State) (returned head : Option (List Byte)) : State :=
  (((s.emitFrame.scanFrame returned).stepGains).sendHeadFrame (uplink returned)).headIn head

/-- FRAME_PERIOD (R1 to R4, R13 to R15, R138). -/
def execFramePeriod (returned head : Option (List Byte)) (s : State) : Host.Outcome State Fault Refusal :=
  .next (s.beforeFrame.framePeriod returned head)

end Sys2Proof.Machine
end

