-- ==== Sys2Proof/Machine/Seats.lean ====
section
/-! DEFINITION. LOAD_SEATS and READ_SEATS (chapter 2, sections 2.2 and 2.3). -/

namespace Sys2Proof.Machine

/-! ## LOAD_SEATS -/

/-- R21, R23, R126: a seat with a new entry. A change to an entry that no longer entitles it to the PRIORITY key clears its armed
mark: it must press again once it is entitled, also when another load restores it before the next examination (DEDUCED, log
entry 29). -/
def Seat.withConfig (t : Seat) (e : SeatConfig) : Seat :=
  if t.config = e then t else { t with config := e, armed := t.armed && e.enabled && e.cls == .chair }

/-- R21: the entries of the run are written into the seat table, from seat `n` on. -/
def State.writeConfigs (s : State) (n : Nat) : List SeatConfig → State
  | [] => s
  | e :: rest => State.writeConfigs (s.updSeat n fun t => t.withConfig e) (n + 1) rest

/-- R21: the seats of the run whose entry the write changes, ascending. -/
def State.changedSeats (s : State) (n : Nat) : List SeatConfig → List Nat
  | [] => []
  | e :: rest =>
    if (s.seat n).config = e then s.changedSeats (n + 1) rest else n :: s.changedSeats (n + 1) rest

/-- R22: the seat's entry makes it unfit for the place it has on the floor. -/
def State.unfit (s : State) (n : Nat) : Bool :=
  match (s.seat n).place, (s.seat n).bound with
  | .idle, _ => false
  | .live, some .p => !(s.seat n).config.enabled || !s.isChair n
  | _, _ => !(s.seat n).config.enabled || !s.admitted n

/-- R21, R22: an accepted LOAD_SEATS. -/
def State.loadSeats (s : State) (tag : Byte) (first : Nat) (entries : List SeatConfig) : State :=
  let s1 := s.writeConfigs first entries
  let unfit := (s.changedSeats first entries).filter s1.unfit
  (s1.takeOff unfit .disabled).reply tag (.seatsLoaded first entries.length)

/-- LOAD_SEATS (R20, R21). -/
def execLoadSeats (s : State) : Host.Outcome State Fault Refusal :=
  .next (s.dispatch 1 fun s tag d =>
    match d with
    | .loadSeats first entries => s.loadSeats tag first entries
    | _ => s)

/-! ## READ_SEATS -/

/-- R26, R169: the record of a seat as it stands. -/
def Seat.record (t : Seat) : SeatRecord :=
  { config := t.config, present := t.present, flagged := t.flagged, pending := t.pendingSense.isSome, place := t.place,
    bound := t.bound, mismatch := t.mismatch }

/-- R26: an accepted READ_SEATS. -/
def State.readSeats (s : State) (tag : Byte) (first count : Nat) : State :=
  s.reply tag (.seatsRead first count ((List.range' first count).map fun n => (s.seat n).record))

/-- READ_SEATS (R26). -/
def execReadSeats (s : State) : Host.Outcome State Fault Refusal :=
  .next (s.dispatch 2 fun s tag d =>
    match d with
    | .readSeats first count => s.readSeats tag first count
    | _ => s)

end Sys2Proof.Machine
end

