-- ==== Sys2Proof/Machine/Dispatch.lean ====
section
/-! DEFINITION. One arm per command: the meaning of every row of spec/opcode_table.json, in the table's order. -/

namespace Sys2Proof.Machine

def exec (i : Instr) (s : State) : Host.Outcome State Fault Refusal :=
  match i with
  | .pinReset => Sys2Proof.Machine.execPinReset s
  | .framePeriod returned head => Sys2Proof.Machine.execFramePeriod returned head s
  | .headLinkLock => Sys2Proof.Machine.execHeadLinkLock s
  | .headLinkUnlock => Sys2Proof.Machine.execHeadLinkUnlock s
  | .sweepIntervalStart order => Sys2Proof.Machine.execSweepIntervalStart order s
  | .blinkPhaseToggle => Sys2Proof.Machine.execBlinkPhaseToggle s
  | .lockoutExpiry n => Sys2Proof.Machine.execLockoutExpiry n s
  | .expired c => Sys2Proof.Machine.execExpired c s
  | .timeOver c => Sys2Proof.Machine.execTimeOver c s
  | .lostSweep => Sys2Proof.Machine.execLostSweep s
  | .trunkDown => Sys2Proof.Machine.execTrunkDown s
  | .sweepReturned => Sys2Proof.Machine.execSweepReturned s
  | .seatLost => Sys2Proof.Machine.execSeatLost s
  | .request n => Sys2Proof.Machine.execRequest n s
  | .withdraw n => Sys2Proof.Machine.execWithdraw n s
  | .nextAction n => Sys2Proof.Machine.execNextAction n s
  | .cancelAction n => Sys2Proof.Machine.execCancelAction n s
  | .priorityHeld n => Sys2Proof.Machine.execPriorityHeld n s
  | .priorityReleased n => Sys2Proof.Machine.execPriorityReleased n s
  | .auditSweep => Sys2Proof.Machine.execAuditSweep s
  | .channelFreed c => Sys2Proof.Machine.execChannelFreed c s
  | .messageHeader => Sys2Proof.Machine.execMessageHeader s
  | .directiveComplete => Sys2Proof.Machine.execDirectiveComplete s
  | .skipEntryDispatch => Sys2Proof.Machine.execSkipEntryDispatch s
  | .unknownKind => Sys2Proof.Machine.execUnknownKind s
  | .loadSeats => Sys2Proof.Machine.execLoadSeats s
  | .readSeats => Sys2Proof.Machine.execReadSeats s
  | .setGeneral => Sys2Proof.Machine.execSetGeneral s
  | .stageItem => Sys2Proof.Machine.execStageItem s
  | .advanceItem => Sys2Proof.Machine.execAdvanceItem s
  | .flushAgenda => Sys2Proof.Machine.execFlushAgenda s
  | .grant => Sys2Proof.Machine.execGrant s
  | .revoke => Sys2Proof.Machine.execRevoke s
  | .enqueue => Sys2Proof.Machine.execEnqueue s
  | .remove => Sys2Proof.Machine.execRemove s
  | .next => Sys2Proof.Machine.execNext s
  | .cancelAll => Sys2Proof.Machine.execCancelAll s
  | .extend => Sys2Proof.Machine.execExtend s
  | .clearFlag => Sys2Proof.Machine.execClearFlag s
  | .readFloor => Sys2Proof.Machine.execReadFloor s
  | .restart => Sys2Proof.Machine.execRestart s
  | .messageStart => Sys2Proof.Machine.execMessageStart s
  | .messageSent => Sys2Proof.Machine.execMessageSent s

end Sys2Proof.Machine
end

