-- ==== Sys2Proof/Safety.lean ====
section
/-! DEFINITION. What a sound state of the part is, in the terms the claims use: the ranges the manual gives every count and
value, the bounds of its queues and of its input buffer, the agreement of the seats, the channels and the floor, and the
fitness of every seat on the floor.
Each of these is a law the manual states of the whole part; the claims say that every step keeps it. -/

namespace Sys2Proof.Machine

/-! ## The queues (R164 to R166) -/

/-- R164 to R166: the reply queue holds at most 4 replies and the notice queue at most 32 notices; the overrun mark stands
exactly while notices have been lost, and then the notice queue is full; a message being sent has a byte still to be sent, having left
its queue with its last. -/
abbrev State.QueuesInBounds (s : State) : Prop :=
  s.replies.length ≤ 4 ∧ s.notices.length ≤ 32 ∧ s.lostCount ≤ 65535 ∧ (s.overrun = true ↔ 0 < s.lostCount) ∧
    (s.overrun = true → s.notices.length = 32) ∧ s.sending.map Sending.rest ≠ some []

/-! ## The input buffer (R161 to R163) -/

/-- R163: the body bytes still to join an entry that is kept whole. -/
def State.arriving (s : State) : Nat :=
  match s.rx with
  | .body left .whole => left
  | _ => 0

/-- The message that is arriving has an entry, whole or skip, in the input buffer. -/
def State.entryArriving (s : State) : Bool :=
  match s.rx with
  | .body _ .whole => true
  | .body _ .skip => true
  | _ => false

/-- At least one body byte is to come while a body is being counted off. -/
def State.bodyExpected (s : State) : Bool :=
  match s.rx with
  | .body 0 _ => false
  | _ => true

/-- R162: an entry is decoded only when it is complete, and its outcome is that of its own bytes. -/
abbrev Entry.Faithful (e : Entry) : Prop :=
  e.decoded = none ∨ (e.complete = true ∧ e.decoded = some (decodeMessage e.kind e.len e.body))

/-- R163: the buffer's bytes, with those still to arrive for a message kept whole, fit its 1,024 bytes; the arriving message
is the buffer's last entry and not complete; every decoded entry carries the outcome of its own bytes. -/
abbrev State.InputSound (s : State) : Prop :=
  s.bytesHeld + s.arriving ≤ 1024 ∧ s.bodyExpected = true ∧ (∀ e ∈ s.buffer, e.Faithful) ∧
    (s.entryArriving = true → (s.buffer.getLast?.map Entry.complete) = some false)

/-! ## Ranges -/

/-- R168: the ranges of the settings. -/
abbrev Settings.InRange (m : Settings) : Prop :=
  m.filterDepth ∈ [1, 2, 4, 8] ∧ (2 ≤ m.presenceTimeout ∧ m.presenceTimeout ≤ 250) ∧
    (1 ≤ m.auditTolerance ∧ m.auditTolerance ≤ 15) ∧ m.rampLength ∈ [32, 64, 128, 256, 512] ∧ m.lockout ≤ 250 ∧
    m.noticeMask.toNat < 64

/-- R53, R54: the ranges of a stored context. -/
abbrev Context.InRange (c : Context) : Prop :=
  c.item ≤ 65535 ∧ (1 ≤ c.maxLive ∧ c.maxLive ≤ 8) ∧ c.listLimit ≤ 64 ∧ c.limit ≤ 3600 ∧ c.warningLead ≤ 600 ∧
    (1 ≤ c.batch ∧ c.batch ≤ 8) ∧ c.duckDepth ≤ 32768

/-- R36: a key's agree count. -/
abbrev Keys.InRange (k : Keys) : Prop :=
  k.talk.agree ≤ 7 ∧ k.priority.agree ≤ 7 ∧ k.next.agree ≤ 7 ∧ k.cancel.agree ≤ 7

/-- R18, R27, R36, R39, R40, R151, R158: the ranges of a seat's fields; the silence count of an absent seat is 0, its keys are released
with agree counts 0, its mismatch count is 0 and it is not pending. -/
abbrev Seat.InRange (t : Seat) : Prop :=
  t.config.level ≤ 32768 ∧ t.silence ≤ 249 ∧
    (t.present = false → t.silence = 0 ∧ t.keys = Keys.reset ∧ t.mismatch = 0 ∧ t.pendingSense = none) ∧ t.keys.InRange ∧
    t.lockout ≤ 250 ∧ t.mismatch ≤ 15

/-- R102: the ranges of a channel record. -/
abbrev Channel.InRange (c : Channel) : Prop := c.remaining.getD 0 ≤ 1800000 ∧ c.held ≤ 32767500

/-- R137: the ranges of a gain and its target. -/
abbrev Gain.InRange (g : Gain) : Prop := g.current ≤ 32768 ∧ g.target ≤ 32768

/-- The counts of the chain blocks, the rotation pointer and the cursor (R4, R5, R11, R13, R79, R151). -/
abbrev State.CountsInRange (s : State) : Prop :=
  s.frame ≤ 96 ∧ s.lostRun ≤ 25 ∧ s.lockCount ≤ 48 ∧ s.sweepNumber ≤ 65535 ∧ s.lastEmitted ≤ 65535 ∧
    s.blinkCount ≤ 124 ∧ (1 ≤ s.rotation ∧ s.rotation ≤ 200) ∧ s.cursor ≤ 200 ∧ s.awaiting.getD 0 ≤ 65535 ∧
    ∀ d ∈ s.discarded, d.number ≤ 65535 ∧ d.bytes ≤ 804

/-- R74: the sweep number of every waiting entry, and of the returned sweeps it is taken from. -/
abbrev State.RequestsInRange (s : State) : Prop :=
  (∀ e ∈ s.waiting, e.sweep ≤ 65535) ∧ (s.owed.returned.map ReturnedSweep.sweep).getD 0 ≤ 65535 ∧
    (s.owed.actions.map Presentation.sweep).getD 0 ≤ 65535

/-- Every value the manual gives a range lies in it. -/
abbrev State.InRange (s : State) : Prop :=
  s.CountsInRange ∧ s.RequestsInRange ∧ s.settings.InRange ∧ (∀ c ∈ s.agenda, c.InRange) ∧ (∀ t ∈ s.seats, t.InRange) ∧
    (∀ c ∈ allChans, (s.chan c).InRange) ∧ (∀ c ∈ allChans, (s.gain c).InRange)

/-! ## Gains at rest (R137, R144) -/

/-- R137, R144: a FREE channel has gain 0, and a channel reported to the channel unit is RELEASING at gain 0 until it is
freed. -/
abbrev State.FreeIsSilent (s : State) : Prop :=
  (∀ c ∈ allChans, (s.chan c).state = .free → (s.gain c).current = 0) ∧
    (∀ c ∈ s.owed.freed, (s.chan c).state = .releasing ∧ (s.gain c).current = 0)

/-! ## The floor (R56, R72, R73, R77, R102, R123) -/

/-- R73: the seat's floor state, its bound channel and the lists agree. -/
abbrev State.SeatAgrees (s : State) (n : Nat) : Prop :=
  ((s.seat n).place = .live ↔ (s.seat n).bound ≠ none) ∧
    ((s.seat n).place = .waiting ↔ n ∈ s.waiting.map WaitEntry.seat) ∧
    (∀ c ∈ allChans, (s.seat n).bound = some c ↔ ((s.chan c).state = .live ∧ (s.chan c).seat = some n))

/-- R102: a LIVE channel is bound to a seat in range; any other has no seat, no timer and no warned mark. -/
abbrev State.ChannelAgrees (s : State) (c : Chan) : Prop :=
  ((s.chan c).state = .live → ∃ n ∈ seatNumbers, (s.chan c).seat = some n) ∧
    ((s.chan c).state ≠ .live → (s.chan c).seat = none ∧ (s.chan c).remaining = none ∧ (s.chan c).warned = false)

/-- R56, R72, R73, R74, R77, R102, R105, R123: the floor, the seats, the channels and the lists agree. -/
structure State.FloorAgrees (s : State) : Prop where
  /-- There are 200 seats. -/
  seats : s.seats.length = 200
  /-- The agenda queue holds at most two contexts. -/
  agenda : s.agenda.length ≤ 2
  /-- The floor is CLOSED exactly when the agenda queue is empty. -/
  closed : s.floor = .closed ↔ s.agenda = []
  /-- Channel P is LIVE exactly while the floor is HELD. -/
  held : s.floor = .held ↔ (s.chan .p).state = .live
  /-- Channel P is never timed. -/
  untimed : (s.chan .p).remaining = none
  /-- Each seat's place and bound channel agree with the lists and the channels. -/
  places : ∀ n ∈ seatNumbers, s.SeatAgrees n
  /-- Each channel's record agrees with its state. -/
  channels : ∀ c ∈ allChans, s.ChannelAgrees c
  /-- The speaker list holds exactly the LIVE ordinary channels, each with its seat. -/
  speakers : ∀ c ∈ ordinaryChans, ∀ n ∈ seatNumbers,
    { chan := c, seat := n } ∈ s.speakers ↔ ((s.chan c).state = .live ∧ (s.chan c).seat = some n)
  /-- The speaker list names ordinary channels and seats in range, no channel twice. -/
  speakersOnce : (s.speakers.map Speaker.chan).Nodup ∧ ∀ e ∈ s.speakers, e.chan ∈ ordinaryChans ∧ e.seat ∈ seatNumbers
  /-- The waiting list names seats in range, none twice. -/
  waitingOnce : (s.waiting.map WaitEntry.seat).Nodup ∧ ∀ e ∈ s.waiting, e.seat ∈ seatNumbers
  /-- With the floor CLOSED both lists are empty. -/
  empty : s.floor = .closed → s.waiting = [] ∧ s.speakers = []

/-! ## Fitness (R74, R77, R80, R123, R12) -/

/-- R80, R123: a seat that waits or holds an ordinary channel is eligible, and the holder of channel P is an enabled,
present, unflagged CHAIR. -/
abbrev State.SeatFits (s : State) (n : Nat) : Prop :=
  ((s.seat n).place = .waiting → s.eligible n = true) ∧
    ((s.seat n).place = .live → (s.seat n).bound ≠ some .p → s.eligible n = true) ∧
    ((s.seat n).bound = some .p → s.entitledChair n = true)

/-- R33, R46, R50, R74, R77, R80, R123, R126, R159: every seat on the floor is fit for its place, the lists are within the active
context's limits, no seat is present while the trunk is DOWN, and only an enabled, present, unflagged CHAIR is armed. -/
structure State.FloorFits (s : State) : Prop where
  seats : ∀ n ∈ seatNumbers, s.SeatFits n
  waiting : ∀ c, s.active = some c → s.waiting.length ≤ c.capacity
  speakers : ∀ c, s.active = some c → s.speakers.length ≤ c.maxLive
  absent : s.trunk = .down → ∀ n ∈ seatNumbers, (s.seat n).present = false
  armed : ∀ n ∈ seatNumbers, (s.seat n).armed = true → s.entitledChair n = true

/-! ## What the claims say of a step -/

/-- The notices `ns` are raised one after another (R166). -/
def State.raiseAll (s : State) (ns : List Notice) : State := ns.foldl State.raise s

/-- `t` has the notices, the overrun mark and the lost count that raising `ns` in `s` leaves (R166). -/
abbrev State.HasRaised (s t : State) (ns : List Notice) : Prop :=
  t.notices = (s.raiseAll ns).notices ∧ t.overrun = (s.raiseAll ns).overrun ∧ t.lostCount = (s.raiseAll ns).lostCount

/-- Every seat but `n` is as it was. -/
abbrev State.OtherSeatsKept (s t : State) (n : Nat) : Prop := ∀ m, m ≠ n → t.seat m = s.seat m

/-- Every channel but `c` is as it was. -/
abbrev State.OtherChannelsKept (s t : State) (c : Chan) : Prop := ∀ d, d ≠ c → t.chan d = s.chan d

/-- R162: the kind of a directive. -/
def Directive.kind : Directive → Nat
  | .loadSeats .. => 1
  | .readSeats .. => 2
  | .setGeneral _ => 3
  | .stageItem _ => 4
  | .advanceItem => 5
  | .flushAgenda => 6
  | .grant _ => 7
  | .revoke _ => 8
  | .enqueue .. => 9
  | .remove _ => 10
  | .next => 11
  | .cancelAll => 12
  | .extend .. => 13
  | .clearFlag _ => 14
  | .readFloor => 15
  | .restart => 16

/-- The command that dispatches a directive of a kind (R162). -/
def dispatchOf : Nat → Option Instr
  | 1 => some .loadSeats
  | 2 => some .readSeats
  | 3 => some .setGeneral
  | 4 => some .stageItem
  | 5 => some .advanceItem
  | 6 => some .flushAgenda
  | 7 => some .grant
  | 8 => some .revoke
  | 9 => some .enqueue
  | 10 => some .remove
  | 11 => some .next
  | 12 => some .cancelAll
  | 13 => some .extend
  | 14 => some .clearFlag
  | 15 => some .readFloor
  | 16 => some .restart
  | _ => none

/-- R164: the oldest entry of the input buffer is the complete, decoded directive `d` with tag `tag`, `rest` are the entries
behind it, and the reply queue has room. -/
abbrev State.Dispatching (s : State) (tag : Byte) (d : Directive) (rest : List Entry) : Prop :=
  s.replies.length < 4 ∧ ∃ e, s.buffer = e :: rest ∧ e.complete = true ∧ e.skip = false ∧ e.tag = tag ∧
    e.kind.toNat = d.kind ∧ e.outcome = .accepted d

/-- R164: the oldest entry is a complete directive of kind `kind` and tag `tag` that decoding refused with reason `r`. -/
abbrev State.DispatchingRefused (s : State) (kind : Nat) (tag : Byte) (r : Reason) (rest : List Entry) : Prop :=
  s.replies.length < 4 ∧ ∃ e, s.buffer = e :: rest ∧ e.complete = true ∧ e.skip = false ∧ e.tag = tag ∧
    e.kind.toNat = kind ∧ e.outcome = .refused r

/-- The entry at the front has left the input buffer. -/
def State.withBuffer (s : State) (rest : List Entry) : State := { s with buffer := rest }

/-- Commands taken one after another. -/
def State.run (s : State) : List Instr → State
  | [] => s
  | c :: rest =>
    match exec c s with
    | .next t => t.run rest
    | .fault _ => s
    | .refused _ => s

/-- No transition of the head link is due (R13). -/
abbrev State.LinkSettled (s : State) : Prop := ¬(s.link = .unlocked ∧ s.lockCount = 48) ∧ s.owed.unlock = false

/-- Nothing stands due that an interval start must find taken. -/
abbrev State.IntervalSettled (s : State) : Prop :=
  s.owed.blink = false ∧ s.owed.lockouts = [] ∧ s.owed.timers = [] ∧ s.owed.lostSweep = none ∧ s.owed.returned = none

/-- Nothing stands due that the return of a sweep, or the first frame period after its interval, must find taken. -/
abbrev State.SweepSettled (s : State) : Prop :=
  s.owed.lostSweep = none ∧ s.owed.actions = none ∧ s.owed.losses = [] ∧ s.owed.audit = none

/-- A frame period within an interval, with nothing due that it must find taken; what it does where something is due is stated
by `FramePeriodTakesWhatIsDue`. -/
abbrev State.FrameReady (s : State) : Prop :=
  s.LinkSettled ∧ s.owed.freed = [] ∧ s.frame < 96 ∧ (s.frame = 0 → s.SweepSettled)

/-! ## The byte positions of the message streams (R161, R165) -/

/-- R165: one outgoing byte position: at a boundary the next message begins, the byte is the first not yet sent, or 00h when nothing is
being sent, and a message whose last byte it was leaves its queue. -/
def State.outByte (s : State) : Byte × State :=
  let u := s.run [.messageSent, .messageStart]
  ((u.sending.map fun m => m.rest.headD 0).getD 0,
    State.run { u with sending := u.sending.map fun m => { source := m.source, rest := m.rest.drop 1 } } [.messageSent])

/-- The last entry of a buffer with the byte `b` joined to it, complete when `left` says that it is the last to come. -/
def joinLast (buffer : List Entry) (body : List Byte) (left : Nat) : List Entry :=
  buffer.dropLast ++ (buffer.getLast?.map fun e => { e with body := e.body ++ body, complete := left ≤ 1 }).toList

/-- R161, R163: one incoming byte position: a header that has arrived is judged; then the byte is idle, begins or continues a
header, or is counted off as a body byte, kept with a message kept whole. -/
def State.inByte (s : State) (b : Byte) : State :=
  let u := s.run [.messageHeader]
  match u.rx with
  | .between => if b = 0 then u else { u with rx := .header [b] false }
  | .header got d => { u with rx := .header (got ++ [b]) d }
  | .body left use =>
    { u with
      rx := if left ≤ 1 then .between else .body (left - 1) use,
      buffer := match use with
        | .whole => joinLast u.buffer [b] left
        | .skip => joinLast u.buffer [] left
        | .drop => u.buffer }

/-! ## The scan of trunk-return (R8, R16) -/

/-- The bytes `cand` of a candidate show it to be the discarded record `d`: they bear its number, and the marker of the next record
stands where it was cut off (log entry 30). -/
abbrev Discarded.ShownBy (d : Discarded) (cand : List Byte) : Prop :=
  4 ≤ d.bytes ∧ d.number = wordAt cand 2 ∧ cand[d.bytes]? = some 0xB4#8

/-- A candidate of which `got` has come, latest byte first, may be the discarded record `d`: its number has not come, or is that of
`d`, of which more was sent than has come (log entry 30). -/
abbrev Discarded.MayBe (d : Discarded) (got : List Byte) : Prop :=
  got.length < 4 ∨ (d.number = wordAt got.reverse 2 ∧ got.length < d.bytes)

/-! ## Returned sweeps (R9, R38, R51) -/

/-- The up half a returned record holds for seat `n`; unanswered where it holds none. -/
def upOf (ups : List UpHalf) (n : Nat) : UpHalf := ups.getD (n - 1) UpHalf.unanswered

/-- R6: the rows of the command table, the first that fits deciding: `x` is the down half of seat `n` in this state. -/
abbrev State.CommandIs (s : State) (n : Nat) (x : Command) : Prop :=
  ((s.seat n).flagged = true → x = { lamp := .fault, chan := none }) ∧
    ((s.seat n).flagged = false → (s.seat n).bound = some .p → (s.chan .p).state = .live →
      x = { lamp := .priority, chan := some .p }) ∧
    (∀ c, c ≠ .p → (s.seat n).flagged = false → (s.seat n).bound = some c → (s.chan c).state = .live →
      x = { lamp := if (s.chan c).warned then .warning else .live, chan := some c }) ∧
    ((s.seat n).flagged = false → (s.seat n).bound = none → (s.seat n).place = .waiting →
      x = { lamp := .waiting, chan := none }) ∧
    ((s.seat n).flagged = false → (s.seat n).bound = none → (s.seat n).place ≠ .waiting → x = { lamp := .off, chan := none })

/-- R38: a returned level differs from the accepted one, and the agree count with it reaches the filter depth. -/
abbrev KeyState.Accepts (k : KeyState) (depth : Nat) (level : Bool) : Prop := level ≠ k.held ∧ depth ≤ k.agree + 1

/-- R38, R46, R51: what the entry `u` of a returned sweep gives for seat `n`, in the seat's order of presentation; `s` is the state
before the sweep and `t` the state after it. -/
def eventsBetween (s t : State) (n : Nat) (u : UpHalf) : List KeyEvent :=
  let k := (s.seat n).keys
  let depth := s.settings.filterDepth
  (if u.answered ∧ k.priority.Accepts depth u.priority ∧ u.priority = false ∧ (s.seat n).armed then [.priorityRelease] else [])
    ++ (if u.answered ∧ k.talk.Accepts depth u.talk then [.talk u.talk] else [])
    ++ (if u.answered ∧ k.next.Accepts depth u.next ∧ u.next then [.nextPress] else [])
    ++ (if u.answered ∧ k.cancel.Accepts depth u.cancel ∧ u.cancel then [.cancelPress] else [])
    ++ (if (t.seat n).present ∧ (t.seat n).keys.priority.held ∧ (t.seat n).armed then [.priorityLevel] else [])

/-- R51, R79: the seat numbers in rotation order from the pointer's seat. -/
def rotationOrder (pointer : Nat) : List Nat := (List.range 200).map fun i => (pointer - 1 + i) % 200 + 1

/-! ## Presentation (R51) -/

/-- The command that presents a key action of seat `n`. -/
def KeyAct.command (n : Nat) : KeyAct → Instr
  | .request => .request n
  | .withdraw => .withdraw n
  | .next => .nextAction n
  | .cancel => .cancelAction n
  | .priorityHeld => .priorityHeld n
  | .priorityReleased => .priorityReleased n

/-- R51: the next slot of the presentation in progress is `event` of seat `n`, from which the action `a` is derived; `rest`
are the slots after it, `sweep` the returned sweep. -/
abbrev State.Presenting (s : State) (sweep n : Nat) (event : KeyEvent) (a : KeyAct) (rest : List KeySlot) : Prop :=
  s.owed.actions = some { sweep := sweep, slots := { seat := n, event := event } :: rest } ∧
    (s.seat n).derive event = some a

/-! ## A load of the seat table (R20, R22) -/

/-- R20: the five bytes of a seat entry in a LOAD_SEATS body, each at any value. -/
structure SeatEntryBytes where
  enabled : Byte
  cls : Byte
  keyAction : Byte
  level1 : Byte
  level2 : Byte
deriving DecidableEq, Repr

/-- R20: the bytes of a seat entry in their order. -/
def SeatEntryBytes.bytes (e : SeatEntryBytes) : List Byte := [e.enabled, e.cls, e.keyAction, e.level1, e.level2]

/-- R22: the entry that a load of `l` from seat `first` on gives seat `n` differs from the one it has, and makes the seat unfit for the
place it has on the floor. -/
def State.madeUnfit (s : State) (first : Nat) (l : List SeatConfig) (n : Nat) : Bool :=
  match if first ≤ n then l[n - first]? else none with
  | none => false
  | some x =>
    (s.seat n).config != x &&
      match (s.seat n).place, (s.seat n).bound with
      | .idle, _ => false
      | .live, some .p => !x.enabled || x.cls != .chair
      | _, _ => !x.enabled || !((s.active.map fun c => c.admitted.admits x.cls).getD false)

/-! ## The end of an intervention (R131, R132) -/

/-- R107, R131, R132: the grant of channel P to seat `n` ends with reason `r` under the context `c`: the floor is OPEN, RESUMED is
raised, under CLEAR every ordinary grant that stands ends PRIORITY_CLEAR, and fill follows. -/
def State.interventionEnded (s : State) (n : Nat) (r : Reason) (c : Context) : State :=
  let u := { s.release .p n r with floor := .opened }.raise (.resumed n c.priorityEnd)
  (if c.priorityEnd = .clear then u.endSpeakers .priorityClear else u).fill

/-! ## The fit of a grant to a new context (R65) -/

/-- R65: the remaining time of the grant `e` under the context `c`. -/
def State.timeUnder (s : State) (c : Context) (e : Speaker) : Option Nat :=
  if c.limit = 0 ∨ (s.classOf e.seat = .chair ∧ c.chairTimed = false) then none
  else some (min ((s.chan e.chan).remaining.getD (c.limit * 500)) (c.limit * 500))

/-- R65: the warned mark of the grant `e` under the context `c`. -/
def State.warnedUnder (s : State) (c : Context) (e : Speaker) : Bool :=
  match s.timeUnder c e with
  | none => false
  | some r => r == 0 || (0 < c.warningLead && r ≤ c.warningLead * 500)

/-- R65: the grant `e` stands at 0 under the context `c`, and its expiry is REVOKE. -/
def State.expiredUnder (s : State) (c : Context) (e : Speaker) : Bool := s.timeUnder c e == some 0 && c.expiry == .revoke

/-- R63: the grants that survive the fit to the context `c`, oldest first. -/
def State.survivors (s : State) (c : Context) : List Speaker :=
  (s.speakers.filter fun e => c.admitted.admits (s.classOf e.seat)).take c.maxLive

/-- R64: the entries that survive the fit to the context `c`, head first. -/
def State.entriesKept (s : State) (c : Context) : List WaitEntry :=
  if c.mode = .direct then [] else (s.waiting.filter fun e => c.admitted.admits (s.classOf e.seat)).take c.listLimit

/-- R108: the ENDED of the grant `e`. -/
def State.endedNotice (s : State) (r : Reason) (e : Speaker) : Notice :=
  .ended e.seat e.chan r (min ((s.chan e.chan).held / 50) 65535)

/-- R107, R108: the ENDED of channel P, if it is LIVE. -/
def State.holderEnded (s : State) (r : Reason) : List Notice :=
  match (s.chan .p).state, (s.chan .p).seat with
  | .live, some n => [s.endedNotice r { chan := .p, seat := n }]
  | _, _ => []

/-- R131: the RESUMED of the end of channel P under the active context, if it is LIVE. -/
def State.holderResumed (s : State) : List Notice :=
  match (s.chan .p).state, (s.chan .p).seat, s.active with
  | .live, some n, some c => [.resumed n c.priorityEnd]
  | _, _, _ => []

/-- R67, R68, R107: `t` is `s` with the floor cleared: both lists empty, every LIVE channel RELEASING with its held count, every seat
IDLE, those that were LIVE under the lockout in force; what an interval start still owed an ended grant has fallen away. -/
abbrev State.FloorCleared (s t : State) : Prop :=
  t.waiting = [] ∧ t.speakers = [] ∧
    (∀ c, (s.chan c).state = .live →
      t.chan c = { state := .releasing, seat := none, remaining := none, warned := false, held := (s.chan c).held }) ∧
    (∀ c, (s.chan c).state ≠ .live → t.chan c = s.chan c) ∧
    (∀ n ∈ seatNumbers, t.seat n =
      { s.seat n with
        place := .idle, bound := none,
        lockout := if (s.seat n).place = .live then s.settings.lockout else (s.seat n).lockout }) ∧
    t.owed.lockouts = (s.owed.lockouts.filter fun m => (s.seat m).place != .live) ∧
    t.owed.timers = s.owed.timers.filter fun c => (s.chan c).state != .live

/-- R92, R107: `t` is `s` with the ordinary floor cleared: both lists empty, every LIVE ordinary channel RELEASING with its held count,
every seat but the holder of channel P IDLE, those that were LIVE under the lockout in force; what an interval start still owed an ended
grant has fallen away. -/
abbrev State.OrdinaryCleared (s t : State) : Prop :=
  t.waiting = [] ∧ t.speakers = [] ∧
    (∀ c, t.chan c = if c ≠ .p ∧ (s.chan c).state = .live then
      { state := .releasing, seat := none, remaining := none, warned := false, held := (s.chan c).held } else s.chan c) ∧
    (∀ n, t.seat n = if (s.seat n).bound = some .p then s.seat n else
      { s.seat n with
        place := .idle, bound := none,
        lockout := if (s.seat n).place = .live then s.settings.lockout else (s.seat n).lockout }) ∧
    t.owed.lockouts =
      (s.owed.lockouts.filter fun m => (s.seat m).place != .live || (s.seat m).bound == some .p) ∧
    t.owed.timers = s.owed.timers.filter fun c => c == .p || (s.chan c).state != .live

/-- R63 to R65: the notices of steps 1 to 6 of a changeover with carry to the context `c`, in their order. -/
def State.fitNotices (s : State) (c : Context) : List Notice :=
  let admits (n : Nat) : Bool := c.admitted.admits (s.classOf n)
  let speakers := s.speakers.filter fun e => admits e.seat
  let waiting := s.waiting.filter fun e => admits e.seat
  (s.speakers.filter fun e => !admits e.seat).map (s.endedNotice .itemChange)
    ++ (speakers.drop c.maxLive).reverse.map (s.endedNotice .itemChange)
    ++ (s.waiting.filter fun e => !admits e.seat).map (fun e => .dequeued e.seat .itemChange)
    ++ (if c.mode = .direct then waiting.map fun e => .dequeued e.seat .itemChange
        else (waiting.drop c.listLimit).reverse.map fun e => .dequeued e.seat .truncated)
    ++ (s.survivors c).flatMap fun e =>
        (if s.warnedUnder c e && !(s.chan e.chan).warned then
          [.warning e.seat e.chan ((s.timeUnder c e).getD 0 / 50)] else [])
        ++ (if s.expiredUnder c e then [s.endedNotice .expired e] else [])

end Sys2Proof.Machine
end

