-- ==== Sys2Proof/Certificates/Slice0/Obligations.lean ====
section
/-! DEFINITION. The statements made about the model, one definition each.
Where a statement speaks of a shared operation (Grant, End, fill, a raised notice), it is the manual's operation of that name in
Machine/Ops.lean, Flags.lean or Arbiter.lean; what Grant and End do to every field is stated by `OperatorGrantBindsChannel` and
`RevokeTakesSeatOff`, what fill and a batch do by `FillAndBatchGrantFromTheHead`, what ends a presentation by
`KeyActionsFollowTheSeat`, and what a raised notice does by `RaisedNoticeIsQueuedOrCounted`. -/

section

open Sys2Proof Sys2Proof.Machine

/-! ## The queue of commands -/

/-- A step takes the command at the front of the queue and executes it on the state with the queue's rest (the queue is
the model's own, log entry 1). -/
def Obligations.StepRunsTheFrontCommand : Prop :=
  ∀ (c : Instr) (rest : List Instr) (s : State),
    step { s with pending := c :: rest } = exec c { s with pending := rest }

/-- Every command, in every state, answers a next state, and leaves the queue of commands as it was. Both are the model's choices:
that the queue is kept, PIN_RESET and RESTART included (log entries 1 and 22), and that a command that is not due, or names an event
the part cannot have, answers next and changes nothing (log entries 1 and 16). -/
def Obligations.EveryCommandAnswersNext : Prop :=
  ∀ (c : Instr) (s : State), ∃ t, exec c s = .next t ∧ t.pending = s.pending

/-! ## Reset -/

/-- R4, R5, R7, R11, R13, R16, R18, R27, R36, R56, R72 to R74, R77, R79, R102, R137, R151, R163, R164, R166, R168: the values pin reset
leaves in every block, with nothing due; and the first frame period after it begins the first sweep interval, in which sweep number 0 is
emitted with blink phase ON. That the interval's frame count stands at 96 for that, that the ports' latches hold nothing, and the record
of what is due are the model's choices (log entries 10 and 4), as is that the queue of commands stands (log entry 22). -/
def Obligations.PinResetLoadsResetValues : Prop :=
  ∀ s : State, ∃ t, exec .pinReset s = .next t ∧
    (t.trunk = .down ∧ t.lostRun = 0 ∧ t.awaiting = none ∧ t.discarded = [] ∧ t.sweepNumber = 0 ∧ t.lastEmitted = 0 ∧
      t.blinkCount = 0 ∧ t.blinkOn = true ∧ t.link = .unlocked ∧ t.lockCount = 0) ∧
    (t.seats.length = 200 ∧ ∀ n, 1 ≤ n → n ≤ 200 →
      (t.seat n).config = { enabled := false, cls := .delegate, keyAction := .push, level := 32768 } ∧
      (t.seat n).present = false ∧ (t.seat n).silence = 0 ∧
      (t.seat n).keys.talk = { held := false, agree := 0 } ∧ (t.seat n).keys.priority = { held := false, agree := 0 } ∧
      (t.seat n).keys.next = { held := false, agree := 0 } ∧ (t.seat n).keys.cancel = { held := false, agree := 0 } ∧
      (t.seat n).armed = false ∧ (t.seat n).lockout = 0 ∧ (t.seat n).place = .idle ∧ (t.seat n).bound = none ∧
      (t.seat n).mismatch = 0 ∧ (t.seat n).pendingSense = none ∧ (t.seat n).flagged = false ∧
      (t.seat n).lastSent = { lamp := .off, chan := none } ∧ (t.seat n).inFlight = { lamp := .off, chan := none }) ∧
    (t.agenda = [] ∧ t.floor = .closed ∧ t.waiting = [] ∧ t.speakers = [] ∧ t.rotation = 1 ∧ t.cursor = 0) ∧
    (∀ c, t.chan c = { state := .free, seat := none, remaining := none, warned := false, held := 0 } ∧
      t.gain c = { current := 0, target := 0 }) ∧
    (t.rx = .between ∧ t.buffer = [] ∧ t.replies = [] ∧ t.notices = [] ∧ t.overrun = false ∧ t.lostCount = 0 ∧
      t.sending = none) ∧
    t.settings = { filterDepth := 2, presenceTimeout := 50, auditTolerance := 4, rampLength := 64, lockout := 100,
                   agendaEmpty := .keep, noticeMask := 0x3F#8 } ∧
    (t.frame = 96 ∧ t.stream = [] ∧ t.scan = .seeking ∧ t.program = (0, 0) ∧ t.trunkOut = [] ∧ t.headOut = []) ∧
    t.owed = { unlock := false, blink := false, lockouts := [], timers := [], lostSweep := none, returned := none,
               actions := none, losses := [], audit := none, freed := [] } ∧
    t.pending = s.pending ∧
    ∀ r h, ∃ v, exec (.framePeriod r h) t = .next v ∧ v.frame = 1 ∧ v.lastEmitted = 0 ∧ v.sweepNumber = 1 ∧
      (v.trunkOut.drop 33).take 4 = [0xB4#8, 1, 0, 0]

/-! ## The head link -/

/-- R13, R14, R163: the link locks when its lock count stands at 48, and both message streams begin between messages.
It unlocks when a frame period without an in-step frame has made that due: entries still arriving leave the buffer, a message
partly sent stays in its queue, and a directive whose header alone has arrived and which has no body is complete and stays, where it
is kept at all; with any other header the buffer is left with its complete entries.
That the count stands at 48 until the link locks, and that a header that has arrived is judged before the unlock, are the model's
choices (log entries 13 and 12). -/
def Obligations.HeadLinkLocksAndUnlocks : Prop :=
  (∀ s : State, s.link = .unlocked → s.lockCount = 48 →
     exec .headLinkLock s = .next { s with link := .locked, lockCount := 0, rx := .between, sending := none }) ∧
  (∀ s : State, s.owed.unlock = true → ∃ t, exec .headLinkUnlock s = .next t ∧
     t = { s with link := .unlocked, lockCount := 0, rx := .between, sending := none, buffer := t.buffer,
                  replies := t.replies, notices := t.notices, overrun := t.overrun, lostCount := t.lostCount,
                  owed := { s.owed with unlock := false } } ∧
     ((∀ k g l d, s.rx ≠ .header [k, g, l] d) → t.buffer = s.buffer.filter fun e => e.complete) ∧
     (∀ k g, s.rx = .header [k, g, 0] false → s.bytesHeld + 3 ≤ 1024 →
       t.buffer = (s.buffer.filter fun e => e.complete) ++
         [{ kind := k, tag := g, len := 0, skip := false, body := [], complete := true, decoded := none }]) ∧
     (∀ k g l d, s.rx = .header [k, g, l] d → d = true ∨ l ≠ 0 ∨ 1024 < s.bytesHeld + 3 →
       t.buffer = s.buffer.filter fun e => e.complete) ∧
     ((∀ m, s.sending = some m → m.rest ≠ []) →
       t.replies = s.replies ∧ t.notices = s.notices ∧ t.overrun = s.overrun ∧ t.lostCount = s.lostCount))

/-- R4, R10, R13, R16, R113, R144, R154: what a frame period takes before it is the frame period itself: the link transition and the
freed channels that the last one brought; the next interval start, where the last interval's 96 frame periods have passed; and in
the first frame period of an interval the loss of the last sweep, or the key actions, losses and audit of its return. In each case
it does what it does when the commands of those steps have come before it. The order among them where the manual leaves it open,
that of several freed channels included, and that they can come as late as this, are the model's choices (log entries 4, 6 and 33). -/
def Obligations.FramePeriodTakesWhatIsDue : Prop :=
  ∀ (s : State) (r h : Option (List Byte)),
    (exec (.framePeriod r h) s =
      exec (.framePeriod r h) (s.run ([.headLinkLock, .headLinkUnlock] ++ s.owed.freed.map Instr.channelFreed))) ∧
    (s.LinkSettled → s.owed.freed = [] → s.frame = 96 →
      exec (.framePeriod r h) s = exec (.framePeriod r h) (s.run [.sweepIntervalStart .emissionFirst])) ∧
    (s.LinkSettled → s.owed.freed = [] → s.frame = 0 → s.owed.actions = none →
      exec (.framePeriod r h) s = exec (.framePeriod r h) (s.run [.lostSweep, .seatLost, .auditSweep])) ∧
    (∀ k slot rest a, s.LinkSettled → s.owed.freed = [] → s.frame = 0 → s.owed.lostSweep = none →
      s.owed.actions = some { sweep := k, slots := slot :: rest } →
      ((s.seat slot.seat).derive slot.event = some a ∨
        ((s.seat slot.seat).derive slot.event = none ∧ a.comesFrom slot.event = true)) →
      exec (.framePeriod r h) s = exec (.framePeriod r h) (s.run [a.command slot.seat]))

/-! ## The frame period -/

/-- R1, R2, R4, R17: in a frame period one 45-byte trunk frame is emitted: nine slots of 0, the two program samples (0 while
UNLOCKED; a sample's three bytes as `FramePeriodServesHead` lays them out) and the next twelve bytes of the record, filled up with
00h; nothing outside the chain blocks, the head interface,
the gain stage and the message unit's streams changes; of what stands due (the model's own record, log entry 4) only the freed channels,
the unlock and the return of a sweep can change. -/
def Obligations.FramePeriodEmitsTrunkFrame : Prop :=
  ∀ (s : State) (r h : Option (List Byte)), s.FrameReady → ∃ t, exec (.framePeriod r h) s = .next t ∧
    t.trunkOut = List.replicate 27 0 ++ sampleBytes (if s.link = .locked then s.program.1 else 0) ++
      sampleBytes (if s.link = .locked then s.program.2 else 0) ++ (s.stream ++ List.replicate 12 0).take 12 ∧
    t.trunkOut.length = 45 ∧ t.stream = s.stream.drop 12 ∧ t.frame = s.frame + 1 ∧
    t = { s with trunkOut := t.trunkOut, stream := t.stream, frame := t.frame, scan := t.scan, discarded := t.discarded,
                 awaiting := t.awaiting, gains := t.gains, headOut := t.headOut, program := t.program, lockCount := t.lockCount,
                 rx := t.rx, buffer := t.buffer, replies := t.replies, notices := t.notices, overrun := t.overrun,
                 lostCount := t.lostCount, sending := t.sending,
                 owed := { s.owed with freed := t.owed.freed, unlock := t.owed.unlock, returned := t.owed.returned } }

/-- R138, R139, R141, R142, R144: every frame period sets each channel's target by the first row that fits, moves its gain one
step toward it without passing it, and reports exactly the RELEASING channels whose gain is 0 after the step, each once. -/
def Obligations.FramePeriodMovesGains : Prop :=
  (∀ (s : State) (r h : Option (List Byte)), s.FrameReady → ∃ t, exec (.framePeriod r h) s = .next t ∧
     ∀ c,
       ((s.chan c).state = .free → t.gain c = { current := 0, target := 0 }) ∧
       ((s.chan c).state = .releasing →
         t.gain c = { current := (s.gain c).current - 32768 / s.settings.rampLength, target := 0 }) ∧
       (∀ n ctx, (s.chan c).state = .live → (s.chan c).seat = some n → s.active = some ctx →
         (t.gain c).target =
           (if c ≠ .p ∧ s.floor = .held then (s.seat n).config.level * ctx.duckDepth / 32768
            else (s.seat n).config.level)) ∧
       ((s.chan c).state = .live →
         ((s.gain c).current < (t.gain c).target →
           (t.gain c).current = min ((s.gain c).current + 32768 / s.settings.rampLength) (t.gain c).target) ∧
         ((t.gain c).target < (s.gain c).current →
           (t.gain c).current = max ((s.gain c).current - 32768 / s.settings.rampLength) (t.gain c).target) ∧
         ((s.gain c).current = (t.gain c).target → (t.gain c).current = (t.gain c).target))) ∧
  (∀ (s : State) (r h : Option (List Byte)), s.FrameReady → ∃ t, exec (.framePeriod r h) s = .next t ∧
     t.owed.freed.Nodup ∧ ∀ c, c ∈ t.owed.freed ↔ ((s.chan c).state = .releasing ∧ (t.gain c).current = 0))

/-- R2, R3, R13 to R15, R17, R145, R147, R148, R161, R165: the head frame sent in a frame period carries the nine gated samples, the
saturated sum of them, the next two bytes of the outgoing message stream and the link state while LOCKED, and audio 0 and idle
bytes while UNLOCKED; an incoming head frame's program samples are kept for the next trunk frame and, while LOCKED, its two message
bytes go to the message unit; in step or missing it counts toward the lock or the unlock. That the lock count stands at 48 with the
link still UNLOCKED, that the head frame of the failing period is sent as LOCKED, and the samples kept around a transition are the
model's choices (log entry 13), as is that a returned frame's slots are used while the trunk is DOWN too (log entry 27; R149 can be read
with 0 there), that a skip entry is complete with its last body byte (log entry 15) and that the frame period takes MESSAGE_SENT itself
(log entry 36). A sample is three bytes, most significant first; a returned frame's slots stand at bytes 0, 3, 6 and so on for channels 1
to 8 and at byte 24 for channel P, and without a returned frame every uplink sample is 0. -/
def Obligations.FramePeriodServesHead : Prop :=
  (∀ x : Sample, sampleBytes x =
    [BitVec.ofNat 8 (x.toNat / 65536), BitVec.ofNat 8 (x.toNat / 256), BitVec.ofNat 8 x.toNat]) ∧
  (∀ (b : List Byte) (i : Nat), (sampleAt b i).toNat =
    65536 * (b.getD i 0).toNat + 256 * (b.getD (i + 1) 0).toNat + (b.getD (i + 2) 0).toNat) ∧
  (∀ b : List Byte, allChans.map (uplink (some b)).get = [0, 3, 6, 9, 12, 15, 18, 21, 24].map (sampleAt b)) ∧
  (∀ c, (uplink none).get c = 0) ∧
  (∀ (s : State) (r h : Option (List Byte)), s.FrameReady → ∃ t, exec (.framePeriod r h) s = .next t ∧
     (s.link = .unlocked → t.headOut = List.replicate 33 0 ∧ t.sending = s.sending ∧ t.replies = s.replies ∧
       t.notices = s.notices ∧ t.overrun = s.overrun ∧ t.lostCount = s.lostCount) ∧
     (s.link = .locked → ∃ m1 m2 s1 s2, (m1, s1) = s.outByte ∧ (m2, s2) = s1.outByte ∧
       t.headOut = (allChans.flatMap fun c => sampleBytes (BitVec.ofInt 24
           (if (s.chan c).state = .free then 0
            else (((uplink r).get c).toInt * (t.gain c).current + 16384) / 32768))) ++
         sampleBytes (BitVec.ofInt 24 (max (-8388608) (min (allChans.map fun c =>
           (if (s.chan c).state = .free then 0
            else (((uplink r).get c).toInt * (t.gain c).current + 16384) / 32768)).sum 8388607))) ++ [m1, m2, 1] ∧
       t.sending = s2.sending ∧ t.replies = s2.replies ∧ t.notices = s2.notices ∧ t.overrun = s2.overrun ∧
       t.lostCount = s2.lostCount)) ∧
  (∀ (s : State) (r h : Option (List Byte)), s.FrameReady → ∃ t, exec (.framePeriod r h) s = .next t ∧
     t.link = s.link ∧
     (s.link = .unlocked → t.lockCount = (if h.isSome then min (s.lockCount + 1) 48 else 0) ∧ t.owed.unlock = false ∧
       t.rx = s.rx ∧ t.buffer = s.buffer) ∧
     (s.link = .locked → t.lockCount = s.lockCount ∧ t.owed.unlock = h.isNone ∧
       (∀ b, h = some b → t.rx = ((s.inByte (b.getD 6 0)).inByte (b.getD 7 0)).rx ∧
         t.buffer = ((s.inByte (b.getD 6 0)).inByte (b.getD 7 0)).buffer) ∧
       (h = none → t.rx = s.rx ∧ t.buffer = s.buffer)) ∧
     t.program = (match h with | some b => (sampleAt b 0, sampleAt b 3) | none => (0, 0)))

/-- R8, R16, R17: what a frame period does to the scan of trunk-return. A returned frame's twelve stream bytes are scanned: bytes still
to be passed over go first, the first B4h after them begins the candidate, its bytes are collected, and the byte that makes 804
returns the awaited sweep when the record bears its number, bytes 2 and 3, and does not when it bears another; the rest is not examined.
What is handed on of the returned record is, for seat n, bits 0 and 1 of its byte 4n + 2, answered and live, and bits 0 to 3 of its byte
4n + 3, TALK, PRIORITY, NEXT and CANCEL. A candidate
whose header bears another number than the awaited one, that of a record a RESTART discarded, is passed over to the end of what was
sent of that record; one that bears the awaited number is taken, and a marker where a discarded record of that number was cut off
begins the next. A frame period without a returned frame counts as twelve byte positions and leaves a candidate incomplete. That it
does, and how a discarded record is told from the awaited one, are the model's choices (log entries 9 and 30). -/
def Obligations.CandidateCompletesAt804Bytes : Prop :=
  (∀ (b : List Byte) (i : Nat), wordAt b i = 256 * (b.getD i 0).toNat + (b.getD (i + 1) 0).toNat) ∧
  (∀ (s : State) (h : Option (List Byte)), s.FrameReady → ∃ t, exec (.framePeriod none h) s = .next t ∧
     t.awaiting = s.awaiting ∧ t.owed.returned = s.owed.returned ∧
     (s.scan = .seeking → t.scan = .seeking ∧ t.discarded = s.discarded) ∧
     (∀ left, s.scan = .finished left → t.scan = .finished (left - 12) ∧ t.discarded = s.discarded) ∧
     (∀ left, s.scan = .passing left →
       t.scan = (if left ≤ 12 then .seeking else .passing (left - 12)) ∧ t.discarded = s.discarded) ∧
     (∀ got, s.scan = .taking got → (∀ d ∈ s.discarded, ¬d.MayBe got) →
       t.scan = .finished (804 - got.length - 12) ∧ t.discarded = s.discarded) ∧
     (∀ got early d later, s.scan = .taking got → s.discarded = early ++ d :: later → d.MayBe got →
       (∀ x ∈ early, ¬x.MayBe got) →
       t.scan = (if d.bytes ≤ got.length + 12 then .seeking else .passing (d.bytes - got.length - 12)) ∧
         t.discarded = later)) ∧
  (∀ (s : State) (b : List Byte) (h : Option (List Byte)), s.FrameReady → b.length = 45 →
     ∃ t, exec (.framePeriod (some b) h) s = .next t ∧
       (∀ left, s.scan = .finished left → t.scan = .finished (left - 12) ∧ t.awaiting = s.awaiting ∧
         t.owed.returned = s.owed.returned ∧ t.discarded = s.discarded) ∧
       (∀ left, s.scan = .passing left → 12 ≤ left →
         t.scan = (if left = 12 then .seeking else .passing (left - 12)) ∧ t.awaiting = s.awaiting ∧
         t.owed.returned = s.owed.returned ∧ t.discarded = s.discarded) ∧
       (∀ got cand, s.scan = .taking got → got.length < 804 → cand = (got.reverse ++ b.drop 33).take 804 →
         (4 ≤ got.length ∨ s.awaiting = some (wordAt cand 2) ∨ ∀ d ∈ s.discarded, d.number ≠ wordAt cand 2) →
         (∀ d ∈ s.discarded, d.ShownBy cand → d.bytes < got.length) →
         (got.length + 12 < 804 → t.scan = .taking cand.reverse ∧ t.awaiting = s.awaiting ∧
           t.owed.returned = s.owed.returned ∧ t.discarded = s.discarded) ∧
         (804 ≤ got.length + 12 → t.scan = .finished 0 ∧ t.discarded = [] ∧
           (∀ k, s.awaiting = some k → wordAt cand 2 = k →
             t.awaiting = none ∧ ∃ ups, t.owed.returned = some { sweep := k, ups := ups } ∧ ups.length = 200 ∧
               ∀ n b2 b3, 1 ≤ n → n ≤ 200 → b2 = cand.getD (4 * n + 2) 0 → b3 = cand.getD (4 * n + 3) 0 →
                 upOf ups n = { answered := b2.getLsbD 0, live := b2.getLsbD 1, talk := b3.getLsbD 0,
                                priority := b3.getLsbD 1, next := b3.getLsbD 2, cancel := b3.getLsbD 3 }) ∧
           (s.awaiting ≠ some (wordAt cand 2) → t.awaiting = s.awaiting ∧ t.owed.returned = s.owed.returned))) ∧
       (∀ w off, (s.scan = .seeking ∧ off = 0) ∨ (s.scan = .passing off ∧ 0 < off ∧ off < 12) → w = b.drop (33 + off) →
         (0xB4#8 ∉ w → t.scan = .seeking ∧ t.awaiting = s.awaiting ∧ t.owed.returned = s.owed.returned ∧
           t.discarded = s.discarded) ∧
         (∀ before cand, w = before ++ cand → 0xB4#8 ∉ before → cand.head? = some 0xB4#8 →
           (cand.length < 4 ∨ s.awaiting = some (wordAt cand 2) ∨ ∀ d ∈ s.discarded, d.number ≠ wordAt cand 2) →
           (∀ d ∈ s.discarded, ¬d.ShownBy cand) →
           t.scan = .taking cand.reverse ∧ t.awaiting = s.awaiting ∧ t.owed.returned = s.owed.returned ∧
             t.discarded = s.discarded))) ∧
  (∀ (s : State) (b : List Byte) (h : Option (List Byte)) (first off : Nat) (cand : List Byte) (early : List Discarded)
     (d : Discarded) (later : List Discarded), s.FrameReady → b.length = 45 → s.discarded = early ++ d :: later →
     (∃ got, s.scan = .taking got ∧ got.length < 804 ∧ cand = (got.reverse ++ b.drop 33).take 804 ∧ first = got.length ∧ off = 0) ∨
       (∃ before, ((s.scan = .seeking ∧ off = before.length) ∨
           ∃ left, s.scan = .passing left ∧ 0 < left ∧ left < 12 ∧ off = left + before.length) ∧
         b.drop (33 + off - before.length) = before ++ cand ∧ 0xB4#8 ∉ before ∧ cand.head? = some 0xB4#8 ∧ first = 0) →
     (first < 4 → 4 ≤ cand.length → s.awaiting ≠ some (wordAt cand 2) → d.number = wordAt cand 2 →
       (∀ x ∈ early, x.number ≠ d.number) →
       exec (.framePeriod (some b) h) s = exec (.framePeriod (some b) h)
         { s with scan := .passing (off + max 4 d.bytes - first), discarded := later }) ∧
     (4 ≤ first ∨ s.awaiting = some (wordAt cand 2) → d.ShownBy cand → first ≤ d.bytes →
       (∀ x ∈ early, x.number = d.number → x.bytes ≠ d.bytes) →
       (∀ x ∈ s.discarded, x.ShownBy cand → first ≤ x.bytes → d.bytes ≤ x.bytes) →
       exec (.framePeriod (some b) h) s = exec (.framePeriod (some b) h)
         { s with
           scan := if off + d.bytes = first then .seeking else .passing (off + d.bytes - first), discarded := later }))

/-! ## Gain arithmetic -/

/-- R145, R146: a gated sample is the product rounded to the nearest, an exact half toward +∞; its magnitude never exceeds the
sample's, so that it lies within the sample range without clamping; unity gain gives the sample itself; every floor-mix sample
lies within the sample range. -/
def Obligations.GatedSampleIsRoundedInRange : Prop :=
  (∀ (x : Sample) (g : Nat), g ≤ 32768 →
    2 * gate x g * 32768 ≤ 2 * (x.toInt * g) + 32768 ∧ 2 * (x.toInt * g) + 32768 < 2 * (gate x g + 1) * 32768 ∧
    -8388608 ≤ gate x g ∧ gate x g ≤ 8388607 ∧ (gate x g).natAbs ≤ x.toInt.natAbs ∧ gate x 32768 = x.toInt) ∧
  (∀ (s : State) (x : PerChan Sample) (c : Chan), (s.gain c).current ≤ 32768 →
    -8388608 ≤ s.gated x c ∧ s.gated x c ≤ 8388607) ∧
  (∀ y : PerChan Int, -8388608 ≤ mixOf y ∧ mixOf y ≤ 8388607)

/-! ## The sweep interval -/

/-- R4, R5, R7, R8, R17: in either order, the interval start emits the 804-byte record of marker, blink phase, sweep number and 200 seat
entries with cleared up halves, and advances the sweep number and the blink count; an advance that would reach 125 leaves the toggle
due (the model's own record of what is due, log entry 4). What is left of a candidate or of a disregarded record under way on
trunk-return is passed over before a marker is sought; that the positions missed in a gap are counted among what is left, and that a
record begun after the candidate was over, or inside one that began at a stray marker, is not followed, are the model's choices (log
entries 9 and 31). The codes of the lamp and channel commands. Where the last interval's toggle, lockouts, timers, loss or return still
stand due, the interval start does what it does when their commands have come before it (log entry 4), so that what is stated of one
with nothing due says what any of them does. -/
def Obligations.IntervalStartEmitsRecord : Prop :=
  ([Lamp.off, .waiting, .live, .warning, .priority, .fault].map Lamp.code = [0, 1, 2, 3, 4, 5] ∧ chanCode none = 0 ∧
    [Chan.c1, .c2, .c3, .c4, .c5, .c6, .c7, .c8, .p].map (fun c => chanCode (some c)) = [1, 2, 3, 4, 5, 6, 7, 8, 9]) ∧
  (∀ (s : State) (order : IntervalOrder), s.frame = 96 →
    exec (.sweepIntervalStart order) s =
      exec (.sweepIntervalStart order) (s.run (.blinkPhaseToggle :: s.owed.lockouts.map Instr.lockoutExpiry)) ∧
    (∀ ctx, s.owed.blink = false → s.owed.lockouts = [] → s.active = some ctx →
      exec (.sweepIntervalStart order) s = exec (.sweepIntervalStart order)
        (s.run (s.owed.timers.map fun c => if ctx.expiry = .revoke then Instr.expired c else Instr.timeOver c))) ∧
    (s.owed.blink = false → s.owed.lockouts = [] → s.active = none →
      exec (.sweepIntervalStart order) s =
        exec (.sweepIntervalStart order) { s with owed := { s.owed with timers := [] } }) ∧
    (s.owed.blink = false → s.owed.lockouts = [] → s.owed.timers = [] →
      (s.owed.lostSweep ≠ none →
        exec (.sweepIntervalStart order) s = exec (.sweepIntervalStart order) (s.run [.lostSweep])) ∧
      (s.owed.lostSweep = none →
        exec (.sweepIntervalStart order) s = exec (.sweepIntervalStart order) (s.run [.sweepReturned])))) ∧
  ∀ (s : State) (order : IntervalOrder), s.frame = 96 → s.IntervalSettled → s.seats.length = 200 →
    ∃ t, exec (.sweepIntervalStart order) s = .next t ∧ t.stream.length = 804 ∧
      t.stream.take 4 = [0xB4#8, if s.blinkOn then 1 else 0, BitVec.ofNat 8 (s.sweepNumber / 256),
        BitVec.ofNat 8 (s.sweepNumber % 256)] ∧
      (∀ n, 1 ≤ n → n ≤ 200 → (t.stream.drop (4 * n)).take 4 =
        [BitVec.ofNat 8 (t.seat n).inFlight.lamp.code, BitVec.ofNat 8 (chanCode (t.seat n).inFlight.chan), 0, 0]) ∧
      t.sweepNumber = (s.sweepNumber + 1) % 65536 ∧ t.lastEmitted = s.sweepNumber ∧ t.awaiting = some s.sweepNumber ∧
      t.owed.lostSweep = s.awaiting ∧ t.frame = 0 ∧ t.blinkOn = s.blinkOn ∧
      (s.blinkCount < 124 → t.blinkCount = s.blinkCount + 1 ∧ t.owed.blink = false) ∧
      (s.blinkCount = 124 → t.blinkCount = 124 ∧ t.owed.blink = true) ∧
      t.discarded = s.discarded ∧ (s.scan = .seeking → t.scan = .seeking) ∧
      (∀ got, s.scan = .taking got → t.scan = (if 804 ≤ got.length then .seeking else .passing (804 - got.length))) ∧
      (∀ left, s.scan = .finished left → t.scan = (if left = 0 then .seeking else .passing left)) ∧
      (∀ left, s.scan = .passing left → t.scan = .passing left)

/-- R6, R7: each emission moves every seat's command in flight into the last command sent and composes the new one by the
command table: from the state before the counts when the emission is first, from the state after them when they are. That a seat
flagged by a report taken before the emission is commanded FAULT in it is the model's choice between R6 and the last row of R160's
table (log entry 28). -/
def Obligations.IntervalStartComposesCommands : Prop :=
  ∀ s : State, s.frame = 96 → s.IntervalSettled → s.seats.length = 200 → ∀ n, 1 ≤ n → n ≤ 200 →
    (∃ t, exec (.sweepIntervalStart .emissionFirst) s = .next t ∧
      (t.seat n).lastSent = (s.seat n).inFlight ∧ s.CommandIs n (t.seat n).inFlight) ∧
    (∃ t, exec (.sweepIntervalStart .countsFirst) s = .next t ∧
      (t.seat n).lastSent = (s.seat n).inFlight ∧ t.CommandIs n (t.seat n).inFlight)

/-- R49, R111, R115, R116: with the emission first, every LIVE channel's held count rises by one up to its cap; a lockout above 1
falls by one, and one that stands at 1 becomes due as LOCKOUT_EXPIRY; a running timer above 1 falls by one, and a decrement that
reaches the lead of a grant not yet warned marks it and raises WARNING, channel 1 first; a timer that stands at 1 becomes due as
EXPIRED or TIME_OVER; a timer suspended under the HELD floor stands; with no ordinary channel LIVE, as with the floor CLOSED, no timer
counts. Nothing else changes but what the emission writes: of a seat its two commands and its lockout, of a channel its held count,
remaining time and warned mark. What is due is the model's own record (log entry 4); that the
WARNING notices of different channels stand channel 1 first is the model's choice, R122 leaving their order open (log entry 5). -/
def Obligations.IntervalStartCounts : Prop :=
  (∀ s : State, s.frame = 96 → s.IntervalSettled → s.seats.length = 200 →
     ∃ t, exec (.sweepIntervalStart .emissionFirst) s = .next t ∧
       (∀ c, (t.chan c).held =
         (if (s.chan c).state = .live then min ((s.chan c).held + 1) 32767500 else (s.chan c).held)) ∧
       (∀ n, 1 ≤ n → n ≤ 200 →
         (1 < (s.seat n).lockout → (t.seat n).lockout = (s.seat n).lockout - 1) ∧
         ((s.seat n).lockout ≤ 1 → (t.seat n).lockout = (s.seat n).lockout) ∧
         (n ∈ t.owed.lockouts ↔ (s.seat n).lockout = 1)) ∧
       (∀ n, t.seat n = { s.seat n with lastSent := (t.seat n).lastSent, inFlight := (t.seat n).inFlight,
                                        lockout := (t.seat n).lockout }) ∧
       (∀ c, t.chan c = { s.chan c with remaining := (t.chan c).remaining, warned := (t.chan c).warned,
                                        held := (t.chan c).held } ∧
         (c = .p ∨ (s.chan c).state ≠ .live →
           (t.chan c).remaining = (s.chan c).remaining ∧ (t.chan c).warned = (s.chan c).warned)) ∧
       t = { s with stream := t.stream, seats := t.seats, sweepNumber := t.sweepNumber, lastEmitted := t.lastEmitted,
                    awaiting := t.awaiting, scan := t.scan, frame := t.frame, blinkCount := t.blinkCount,
                    channels := t.channels, notices := t.notices, overrun := t.overrun, lostCount := t.lostCount,
                    owed := { s.owed with blink := t.owed.blink, lostSweep := t.owed.lostSweep,
                                          lockouts := t.owed.lockouts, timers := t.owed.timers } }) ∧
  (∀ (s : State) (ctx : Context) (c : Chan) (n : Nat), s.frame = 96 → s.IntervalSettled → s.active = some ctx → c ≠ .p →
     (s.chan c).state = .live → (s.chan c).seat = some n →
     ∃ t, exec (.sweepIntervalStart .emissionFirst) s = .next t ∧ (t.chan c).state = .live ∧ (t.chan c).seat = some n ∧
       (s.floor = .held ∧ ctx.suspendWhileHeld = true →
         (t.chan c).remaining = (s.chan c).remaining ∧ (t.chan c).warned = (s.chan c).warned ∧ c ∉ t.owed.timers) ∧
       (¬(s.floor = .held ∧ ctx.suspendWhileHeld = true) →
         ((s.chan c).remaining = none ∨ (s.chan c).remaining = some 0 →
           (t.chan c).remaining = (s.chan c).remaining ∧ (t.chan c).warned = (s.chan c).warned ∧ c ∉ t.owed.timers) ∧
         ((s.chan c).remaining = some 1 →
           (t.chan c).remaining = some 1 ∧ (t.chan c).warned = (s.chan c).warned ∧ c ∈ t.owed.timers) ∧
         (∀ r, (s.chan c).remaining = some (r + 2) →
           (t.chan c).remaining = some (r + 1) ∧ c ∉ t.owed.timers ∧
           ((t.chan c).warned = true ↔
             ((s.chan c).warned = true ∨ (0 < ctx.warningLead ∧ r + 1 ≤ ctx.warningLead * 500)))))) ∧
  (∀ (s : State) (ctx : Context), s.frame = 96 → s.IntervalSettled → s.active = some ctx →
     ∃ t, exec (.sweepIntervalStart .emissionFirst) s = .next t ∧
       s.HasRaised t (ordinaryChans.flatMap fun c =>
         match (s.chan c).state, (s.chan c).seat, (s.chan c).remaining with
         | .live, some n, some (r + 2) =>
           if ¬(s.floor = .held ∧ ctx.suspendWhileHeld = true) ∧ (s.chan c).warned = false ∧ 0 < ctx.warningLead ∧
               r + 1 ≤ ctx.warningLead * 500 then [.warning n c ((r + 1) / 50)]
           else []
         | _, _, _ => [])) ∧
  (∀ s : State, s.frame = 96 → s.IntervalSettled → (∀ c, c ≠ .p → (s.chan c).state ≠ .live) →
     ∃ t, exec (.sweepIntervalStart .emissionFirst) s = .next t ∧ s.HasRaised t [] ∧ t.owed.timers = [] ∧
       ∀ c, c ≠ .p → t.chan c = s.chan c)

/-- R6, R49, R111, R115: an interval start that takes the counts before the emission leaves what one with the emission first leaves once
every lockout and timer it made due has been taken, channel 1 first, but for the record emitted and the commands in flight, which the
counts have changed; with no active context, the floor CLOSED and so no ordinary channel LIVE, there is no timer to take. That the
expiries come channel 1 first and after the other counts is the model's choice (log entry 5). -/
def Obligations.IntervalStartCountsFirst : Prop :=
  ∀ (s u w : State) (e : Expiry), s.frame = 96 → s.IntervalSettled → s.seats.length = 200 →
    (∀ ctx, s.active = some ctx → e = ctx.expiry) →
    (s.active = none → ∀ c, c ≠ .p → (s.chan c).state ≠ .live) →
    u = s.run [.sweepIntervalStart .emissionFirst] →
    w = u.run (u.owed.lockouts.map Instr.lockoutExpiry ++
      u.owed.timers.map fun c => if e = .revoke then Instr.expired c else Instr.timeOver c) →
    ∃ t, exec (.sweepIntervalStart .countsFirst) s = .next t ∧ t.owed.lockouts = [] ∧ t.owed.timers = [] ∧
      t = { w with stream := t.stream, seats := t.seats } ∧ t.seats.length = 200 ∧
      ∀ n, t.seat n = { w.seat n with inFlight := (t.seat n).inFlight }

/-- R5, R49, R115 to R118, R121: what an interval start leaves due. The toggle returns the blink count to 0 and inverts the blink
phase; the decrement takes a seat's lockout from 1 to 0; the decrement that brings a timer to 0 under REVOKE ends the grant EXPIRED
and fill follows; under WARN_ONLY it marks the grant warned and raises TIME_OVER, the grant LIVE with its timer resting at 0; either
way WARNING precedes it where the grant was not yet warned; under either expiry a timer that EXTEND has raised first only falls by one,
warned with WARNING where that reaches the lead (the model's reading of R121, log entry 14); a due decrement that meets the floor gone
HELD under suspension, or a timer that rests at 0 or is gone, is no longer due and changes nothing else; EXPIRED and TIME_OVER of a
channel whose decrement is not due, or under the other expiry, change nothing. What is due is the model's own record (log entry 4). -/
def Obligations.TimersRunOut : Prop :=
  (∀ s : State, s.owed.blink = true →
     exec .blinkPhaseToggle s =
       .next { s with blinkCount := 0, blinkOn := !s.blinkOn, owed := { s.owed with blink := false } }) ∧
  (∀ (s : State) (c : Chan),
     (c ∉ s.owed.timers → exec (.expired c) s = .next s ∧ exec (.timeOver c) s = .next s) ∧
     (∀ ctx, s.active = some ctx → (ctx.expiry = .warnOnly → exec (.expired c) s = .next s) ∧
       (ctx.expiry = .revoke → exec (.timeOver c) s = .next s))) ∧
  (∀ (s : State) (ctx : Context) (c : Chan) (n : Nat) (cmd : Instr), c ∈ s.owed.timers → s.active = some ctx →
     (s.chan c).seat = some n →
     (ctx.expiry = .revoke ∧ cmd = .expired c) ∨ (ctx.expiry = .warnOnly ∧ cmd = .timeOver c) →
     ((s.floor = .held ∧ ctx.suspendWhileHeld = true) ∨ (s.chan c).remaining = none ∨ (s.chan c).remaining = some 0 →
       exec cmd s = .next { s with owed := { s.owed with timers := s.owed.timers.filter fun d => d != c } }) ∧
     (∀ r warns, ¬(s.floor = .held ∧ ctx.suspendWhileHeld = true) → (s.chan c).remaining = some (r + 2) →
       warns = (0 < ctx.warningLead && r + 1 ≤ ctx.warningLead * 500) → ∃ t, exec cmd s = .next t ∧
       t.chan c = { s.chan c with remaining := some (r + 1), warned := (s.chan c).warned || warns } ∧
       s.OtherChannelsKept t c ∧
       s.HasRaised t (if (s.chan c).warned = false ∧ warns = true then [.warning n c ((r + 1) / 50)] else []) ∧
       t = { s with channels := t.channels, notices := t.notices, overrun := t.overrun, lostCount := t.lostCount,
                    owed := { s.owed with timers := s.owed.timers.filter fun d => d != c } })) ∧
  (∀ (s : State) (n : Nat), n ∈ s.owed.lockouts → 1 ≤ n → n ≤ s.seats.length → (s.seat n).lockout = 1 →
     ∃ t, exec (.lockoutExpiry n) s = .next t ∧ t.seat n = { s.seat n with lockout := 0 } ∧ s.OtherSeatsKept t n ∧
       t = { s with seats := t.seats,
                    owed := { s.owed with lockouts := s.owed.lockouts.filter fun m => m != n } }) ∧
  (∀ (s : State) (ctx : Context) (c : Chan) (n : Nat), c ∈ s.owed.timers → c ≠ .p → s.active = some ctx →
     ctx.expiry = .revoke → ¬(s.floor = .held ∧ ctx.suspendWhileHeld = true) → (s.chan c).seat = some n →
     (s.chan c).remaining = some 1 →
       exec (.expired c) s = .next
         ((if (s.chan c).warned = false ∧ 0 < ctx.warningLead then s.raise (.warning n c 0) else s).release c n
           .expired).fill) ∧
  (∀ (s : State) (ctx : Context) (c : Chan) (n : Nat), c ∈ s.owed.timers → s.active = some ctx → ctx.expiry = .warnOnly →
     ¬(s.floor = .held ∧ ctx.suspendWhileHeld = true) → (s.chan c).seat = some n → (s.chan c).remaining = some 1 →
     ∃ t, exec (.timeOver c) s = .next t ∧
       t.chan c = { s.chan c with remaining := some 0, warned := true } ∧ s.OtherChannelsKept t c ∧
       s.HasRaised t ((if (s.chan c).warned = false ∧ 0 < ctx.warningLead then [.warning n c 0] else []) ++ [.timeOver n c]) ∧
       t = { s with channels := t.channels, notices := t.notices, overrun := t.overrun, lostCount := t.lostCount,
                    owed := { s.owed with timers := s.owed.timers.filter fun d => d != c } })

/-! ## Loss and return of sweeps -/

/-- R7, R10 to R12, R33, R36, R40, R48, R98, R107, R108, R131, R137, R158: a sweep not returned is declared lost: the run count rises,
holding at 25; while it stays below 25, or the trunk is DOWN already, nothing else happens. The loss that brings an UP trunk's run to 25
breaks the trunk at once: DOWN, with TRUNK_DOWN raised first, then DEQUEUED for every waiting entry, head first, ENDED for every ordinary
grant, oldest first, and ENDED and RESUMED for channel P, every end and removal with reason TRUNK_DOWN; every seat absent with its filter,
armed mark, counts and pending mark reset and off the floor, those that held a grant under the lockout in force; both lists empty, a HELD
floor OPEN, every LIVE channel RELEASING; every seat's two commands, its flag and its entry of the seat table, the agenda, the rotation
pointer, the cursor, the settings, the gains and all else stand, but for what an interval start still owed an ended grant, which falls
away (the model's own record, log entry 4). Where no loss is due, neither command changes anything (log entry 1). That the declaration may
come before the next emission or after it is R10's own (log entry 20); that the records a RESTART discarded are looked for no longer is
the model's choice (log entry 30). -/
def Obligations.LostSweepsBreakTrunk : Prop :=
  (∀ s : State, s.owed.lostSweep = none → s.awaiting = none ∨ s.frame ≠ 96 →
     exec .lostSweep s = .next s ∧ exec .trunkDown s = .next s) ∧
  (∀ (s : State) (k : Nat), ¬(s.trunk = .up ∧ 24 ≤ s.lostRun) →
     exec .trunkDown s = .next s ∧
     (s.owed.lostSweep = none → s.awaiting = some k → s.frame = 96 →
       exec .lostSweep s = .next { s with awaiting := none, lostRun := min (s.lostRun + 1) 25, discarded := [] }) ∧
     (s.owed.lostSweep = some k →
       exec .lostSweep s = .next { s with
         lostRun := min (s.lostRun + 1) 25, discarded := [], owed := { s.owed with lostSweep := none } })) ∧
  (∀ (s : State) (k : Nat), s.FloorAgrees → s.trunk = .up → 24 ≤ s.lostRun →
     (s.owed.lostSweep = some k ∨ (s.owed.lostSweep = none ∧ s.awaiting = some k ∧ s.frame = 96)) →
     ∃ t, exec .lostSweep s = .next t ∧ exec .trunkDown s = .next t ∧
       t.trunk = .down ∧ t.lostRun = 25 ∧ t.owed.lostSweep = none ∧ t.discarded = [] ∧
       s.HasRaised t (.trunkDown k :: s.waiting.map (fun e => .dequeued e.seat .trunkDown) ++
         s.speakers.map (s.endedNotice .trunkDown) ++ s.holderEnded .trunkDown ++ s.holderResumed) ∧
       t.waiting = [] ∧ t.speakers = [] ∧ t.floor = (if s.floor = .held then .opened else s.floor) ∧
       (∀ c, t.chan c = (if (s.chan c).state = .live then
         { state := .releasing, seat := none, remaining := none, warned := false, held := (s.chan c).held } else s.chan c)) ∧
       (∀ n, t.seat n = { s.seat n with
         present := false, silence := 0, keys := Keys.reset, armed := false, mismatch := 0, pendingSense := none, place := .idle,
         bound := none, lockout := if (s.seat n).place = .live then s.settings.lockout else (s.seat n).lockout }) ∧
       t.owed.lockouts = (s.owed.lockouts.filter fun n => (s.seat n).place != .live) ∧
       t.owed.timers = (s.owed.timers.filter fun c => (s.chan c).state != .live) ∧
       t.awaiting = (if s.owed.lostSweep = none then none else s.awaiting) ∧
       t = { s with trunk := t.trunk, lostRun := t.lostRun, awaiting := t.awaiting, discarded := t.discarded, seats := t.seats,
                    waiting := t.waiting, speakers := t.speakers, floor := t.floor, channels := t.channels,
                    notices := t.notices, overrun := t.overrun, lostCount := t.lostCount,
                    owed := { s.owed with lostSweep := none, lockouts := t.owed.lockouts, timers := t.owed.timers } })

/-- R8, R11, R28, R29, R31: a returned sweep clears the run count and brings a DOWN trunk UP; every seat that answers is present
with silence count 0, raising SEAT_FOUND if it was absent; an unanswered present seat's silence count rises. The seat whose count
would reach the presence timeout stays present and keeps its count until SEAT_LOST takes it, and is recorded, in ascending order, as due
to be lost: that record is the model's own (log entry 4), R29's absence is SEAT_LOST's, and so every SEAT_FOUND of a sweep precedes its
SEAT_LOST notices (log entry 34). Where an earlier sweep's loss, key actions, losses or audit still stand due, the return does what it
does when their commands have come before it (log entry 4), so that what is stated of one with nothing due says what any of them does. -/
def Obligations.SweepReturnedFindsSeats : Prop :=
  (∀ (s : State) (r : ReturnedSweep), s.owed.returned = some r →
    (s.owed.lostSweep ≠ none → exec .sweepReturned s = exec .sweepReturned (s.run [.lostSweep])) ∧
    (s.owed.lostSweep = none → s.owed.actions = none →
      exec .sweepReturned s = exec .sweepReturned (s.run [.seatLost, .auditSweep])) ∧
    (∀ k, s.owed.lostSweep = none → s.owed.actions = some { sweep := k, slots := [] } →
      exec .sweepReturned s = exec .sweepReturned s.closePresentation) ∧
    (∀ k slot rest a, s.owed.lostSweep = none → s.owed.actions = some { sweep := k, slots := slot :: rest } →
      ((s.seat slot.seat).derive slot.event = some a ∨
        ((s.seat slot.seat).derive slot.event = none ∧ a.comesFrom slot.event = true)) →
      exec .sweepReturned s = exec .sweepReturned (s.run [a.command slot.seat]))) ∧
  ∀ (s : State) (k : Nat) (ups : List UpHalf), s.owed.returned = some { sweep := k, ups := ups } → s.SweepSettled →
    s.seats.length = 200 → ∃ t, exec .sweepReturned s = .next t ∧ t.trunk = .up ∧ t.lostRun = 0 ∧
      t.owed.returned = none ∧
      s.HasRaised t ((if s.trunk = .down then [.trunkUp k] else []) ++
        (seatNumbers.filter fun n => (upOf ups n).answered && !(s.seat n).present).map Notice.seatFound) ∧
      (∀ n, 1 ≤ n → n ≤ 200 →
        ((upOf ups n).answered = true → (t.seat n).present = true ∧ (t.seat n).silence = 0 ∧ n ∉ t.owed.losses) ∧
        ((upOf ups n).answered = false → (s.seat n).present = false →
          (t.seat n).present = false ∧ (t.seat n).silence = (s.seat n).silence ∧ n ∉ t.owed.losses) ∧
        ((upOf ups n).answered = false → (s.seat n).present = true →
          (t.seat n).present = true ∧
          ((s.seat n).silence + 1 < s.settings.presenceTimeout →
            (t.seat n).silence = (s.seat n).silence + 1 ∧ n ∉ t.owed.losses) ∧
          (s.settings.presenceTimeout ≤ (s.seat n).silence + 1 →
            (t.seat n).silence = (s.seat n).silence ∧ n ∈ t.owed.losses))) ∧
      t.owed.losses = seatNumbers.filter fun n =>
        !(upOf ups n).answered && (s.seat n).present && s.settings.presenceTimeout ≤ (s.seat n).silence + 1

/-- R38, R39: what a returned sweep does to a seat's TALK key, and likewise to the other three: an equal level sets the agree
count to 0, a differing one counts, and the one that reaches the filter depth is accepted; an unanswered entry changes
nothing. -/
def Obligations.SweepReturnedFiltersKeys : Prop :=
  ∀ (s : State) (k : Nat) (ups : List UpHalf), s.owed.returned = some { sweep := k, ups := ups } → s.SweepSettled →
    s.seats.length = 200 → ∃ t, exec .sweepReturned s = .next t ∧ ∀ n, 1 ≤ n → n ≤ 200 →
      ((upOf ups n).answered = false → (t.seat n).keys = (s.seat n).keys) ∧
      ((upOf ups n).answered = true →
        ∀ key level, (key, level) ∈
            [((fun q : Keys => q.talk), (upOf ups n).talk), ((fun q : Keys => q.priority), (upOf ups n).priority),
             ((fun q : Keys => q.next), (upOf ups n).next), ((fun q : Keys => q.cancel), (upOf ups n).cancel)] →
          (level = (key (s.seat n).keys).held →
            key (t.seat n).keys = { held := (key (s.seat n).keys).held, agree := 0 }) ∧
          (level ≠ (key (s.seat n).keys).held → (key (s.seat n).keys).agree + 1 < s.settings.filterDepth →
            key (t.seat n).keys =
              { held := (key (s.seat n).keys).held, agree := (key (s.seat n).keys).agree + 1 }) ∧
          (level ≠ (key (s.seat n).keys).held → s.settings.filterDepth ≤ (key (s.seat n).keys).agree + 1 →
            key (t.seat n).keys = { held := level, agree := 0 }))

/-- R7, R9, R38, R46, R51, R79, R152: what a returned sweep hands on. The armed mark of each seat after its PRIORITY edge; for the
audit each answered entry with the last command sent as it stands; for the arbiter the slots of the sweep's edges and held levels,
seat by seat in rotation order, and with no slot at all the pointer's advance at once; every other field of every seat stands. What
is due is the model's own record (log entry 4). One slot for every edge and held level whether or not it will give an action, the
pointer standing while a slot is left and advancing at once with none, is the model's reading (log entry 7), as is that a seat that the
sweep is to lose has the slot of its held and armed PRIORITY all the same, so that its priority-held can come before its absence or after
it (log entry 21). -/
def Obligations.SweepReturnedHandsOn : Prop :=
  ∀ (s : State) (k : Nat) (ups : List UpHalf), s.owed.returned = some { sweep := k, ups := ups } → s.SweepSettled →
    s.seats.length = 200 → 1 ≤ s.rotation → s.rotation ≤ 200 → ∃ t slots, exec .sweepReturned s = .next t ∧
      (∀ n, 1 ≤ n → n ≤ 200 →
        (t.seat n).armed = (if (upOf ups n).answered ∧ (s.seat n).keys.priority.Accepts s.settings.filterDepth (upOf ups n).priority
          then (upOf ups n).priority && (s.seat n).config.enabled && (s.seat n).config.cls == .chair && !(s.seat n).flagged
          else (s.seat n).armed) ∧
        t.seat n = { s.seat n with present := (t.seat n).present, silence := (t.seat n).silence, keys := (t.seat n).keys,
                                   armed := (t.seat n).armed }) ∧
      t.owed.audit = some ((seatNumbers.filter fun n => (upOf ups n).answered).map fun n =>
        { seat := n, commandedOpen := (s.seat n).lastSent.chan.isSome, reportedOpen := (upOf ups n).live }) ∧
      slots = ((rotationOrder s.rotation).flatMap fun n =>
        (eventsBetween s t n (upOf ups n)).map fun e => ({ seat := n, event := e } : KeySlot)) ∧
      (slots ≠ [] → t.owed.actions = some { sweep := k, slots := slots } ∧ t.rotation = s.rotation) ∧
      (slots = [] → t.owed.actions = none ∧ t.rotation = (if s.rotation < 200 then s.rotation + 1 else 1)) ∧
      t = { s with trunk := t.trunk, lostRun := t.lostRun, seats := t.seats, rotation := t.rotation, notices := t.notices,
                   overrun := t.overrun, lostCount := t.lostCount,
                   owed := { s.owed with returned := none, actions := t.owed.actions, losses := t.owed.losses,
                                         audit := t.owed.audit } }

/-- R32, R40, R107, R109, R158: every seat due to be lost becomes absent, its filter, armed mark, count and pending mark reset and its
flag kept: all of them first, raising SEAT_LOST in the order in which they are due (ascending, as SWEEP_RETURNED records them). Then they
leave the floor with reason SEAT_LOST in two passes of that order, every waiting entry first and then every grant, each with its fill or
its end of the intervention, as an End does; where none of them is on the floor nothing else is changed. -/
def Obligations.SeatLostMakesAbsent : Prop :=
  (∀ s : State, s.FloorAgrees → ∃ t, exec .seatLost s = .next t ∧ t.owed.losses = [] ∧
    (∀ n, n ∈ s.owed.losses → (s.seat n).present = true →
      (t.seat n).present = false ∧ (t.seat n).silence = 0 ∧ (t.seat n).keys = Keys.reset ∧ (t.seat n).armed = false ∧
      (t.seat n).mismatch = 0 ∧ (t.seat n).pendingSense = none ∧ (t.seat n).flagged = (s.seat n).flagged ∧
      (t.seat n).config = (s.seat n).config ∧ (t.seat n).place = .idle ∧ (t.seat n).bound = none) ∧
    (∀ n, n ∉ s.owed.losses → (t.seat n).present = (s.seat n).present ∧ (t.seat n).keys = (s.seat n).keys) ∧
    ((∀ n ∈ s.owed.losses, (s.seat n).place = .idle) →
      s.HasRaised t ((s.owed.losses.filter fun n => (s.seat n).present).map Notice.seatLost) ∧
      t = { s with seats := t.seats, notices := t.notices, overrun := t.overrun, lostCount := t.lostCount,
                   owed := { s.owed with losses := [] } })) ∧
  (∀ (s : State) (lost : List Nat), lost = (s.owed.losses.filter fun n => (s.seat n).present) →
    ∃ u : State, u = { s with seats := u.seats, notices := u.notices, overrun := u.overrun, lostCount := u.lostCount,
                              owed := { s.owed with losses := [] } } ∧
      s.HasRaised u (lost.map Notice.seatLost) ∧
      (∀ n, (n ∈ lost → u.seat n = { s.seat n with present := false, silence := 0, keys := Keys.reset, armed := false,
                                                   mismatch := 0, pendingSense := none }) ∧
        (n ∉ lost → u.seat n = s.seat n)) ∧
      exec .seatLost s = .next
        ((lost.filter fun n => (s.seat n).place == .live).foldl (fun v n => v.endSeat n .seatLost)
          ((lost.filter fun n => (s.seat n).place == .waiting).foldl (fun v n => v.removeWaiting n .seatLost) u)))

/-! ## Key actions -/

/-- R41, R43 to R47, R50, R51, R79: the key action derived from each event of a seat as it stands at its presentation: none for a
disabled or absent seat; a TALK edge by key action and floor state, barred by OBSERVER, a lockout and channel P; a chair's keys for a
CHAIR alone; a flagged seat's request alone. A key command whose slot gives no action spends it, a PRIORITY level losing its armed
mark; slots before it that give none are spent with it; while one before it gives an action, or where it has no slot, it changes
nothing; with the last slot gone the rotation pointer advances, from 200 to 1. That a slot is spent when it is reached and not before
is the model's reading (log entry 7). -/
def Obligations.KeyActionsFollowTheSeat : Prop :=
  (∀ t : Seat,
    (t.config.enabled = false ∨ t.present = false → ∀ e, t.derive e = none) ∧
    (t.config.enabled = true → t.present = true →
      (∀ press, t.config.cls = .observer ∨ 0 < t.lockout ∨ t.bound = some .p → t.derive (.talk press) = none) ∧
      (t.config.cls ≠ .observer → t.lockout = 0 → t.bound ≠ some .p →
        (t.place = .idle → t.derive (.talk true) = some .request ∧ t.derive (.talk false) = none) ∧
        (t.place ≠ .idle → t.flagged = true → ∀ press, t.derive (.talk press) = none) ∧
        (t.place ≠ .idle → t.flagged = false →
          (t.config.keyAction = .push → t.derive (.talk true) = some .withdraw ∧ t.derive (.talk false) = none) ∧
          (t.config.keyAction = .hold → t.derive (.talk true) = none ∧ t.derive (.talk false) = some .withdraw))) ∧
      (t.config.cls = .chair → t.flagged = false →
        t.derive .priorityRelease = some .priorityReleased ∧ t.derive .nextPress = some .next ∧
        t.derive .cancelPress = some .cancel ∧
        t.derive .priorityLevel = (if t.keys.priority.held ∧ t.armed then some .priorityHeld else none)) ∧
      (t.config.cls ≠ .chair ∨ t.flagged = true →
        t.derive .priorityRelease = none ∧ t.derive .nextPress = none ∧ t.derive .cancelPress = none ∧
        t.derive .priorityLevel = none))) ∧
  (∀ (s : State) (k n : Nat) (a : KeyAct) (before : List KeySlot) (ev : KeyEvent) (rest : List KeySlot),
    s.owed.actions = some { sweep := k, slots := before ++ { seat := n, event := ev } :: rest } → a.comesFrom ev = true →
    (∀ j ∈ before, ¬(j.seat = n ∧ a.comesFrom j.event = true)) →
    (before = [] → (s.seat n).derive ev = none → exec (a.command n) s = .next
      (if ev = .priorityLevel then (s.keepSlots k rest).updSeat n fun t => { t with armed := false }
       else s.keepSlots k rest).closePresentation) ∧
    (∀ j l, before = j :: l → (∀ x ∈ before, (s.seat x.seat).derive x.event = none) →
      ((s.seat n).derive ev = none ∨ (s.seat n).derive ev = some a) → exec (a.command n) s =
      exec (a.command n)
        ((if j.event = .priorityLevel then s.updSeat j.seat fun t => { t with armed := false } else s).keepSlots k
          (l ++ { seat := n, event := ev } :: rest))) ∧
    ((∃ j ∈ before, (s.seat j.seat).derive j.event ≠ none) → exec (a.command n) s = .next s) ∧
    (∀ b, (s.seat n).derive ev = some b → b ≠ a → exec (a.command n) s = .next s)) ∧
  (∀ (s : State) (k n : Nat) (a : KeyAct) (slots : List KeySlot),
    s.owed.actions = none ∨ (s.owed.actions = some { sweep := k, slots := slots } ∧
      ∀ j ∈ slots, ¬(j.seat = n ∧ a.comesFrom j.event = true)) → exec (a.command n) s = .next s) ∧
  (∀ (u : State) (k : Nat) (x : KeySlot) (l : List KeySlot),
    (u.owed.actions = some { sweep := k, slots := [] } → u.closePresentation =
      { u with rotation := if u.rotation < 200 then u.rotation + 1 else 1, owed := { u.owed with actions := none } }) ∧
    (u.owed.actions = some { sweep := k, slots := x :: l } ∨ u.owed.actions = none → u.closePresentation = u))

/-- R81 to R84: the denials of a request that the floor state, the flag or the seat's class decides, in which the floor, the
lists and the channels stand; and an eligible seat's request with the floor OPEN that is granted, or denied for want of room. -/
def Obligations.RequestIsDeniedOrGranted : Prop :=
  (∀ (s : State) (k n : Nat) (ev : KeyEvent) (rest : List KeySlot), s.Presenting k n ev .request rest →
     (s.floor = .closed →
       exec (.request n) s = .next ((s.keepSlots k rest).raise (.denied n .floorClosed)).closePresentation) ∧
     (s.floor ≠ .closed → (s.seat n).flagged = true →
       exec (.request n) s = .next ((s.keepSlots k rest).raise (.denied n .flagged)).closePresentation) ∧
     (s.floor ≠ .closed → (s.seat n).flagged = false → s.eligible n = false →
       exec (.request n) s = .next ((s.keepSlots k rest).raise (.denied n .notAdmitted)).closePresentation) ∧
     (∀ c, s.floor = .held → s.eligible n = true → s.active = some c → c.mode = .direct →
       exec (.request n) s = .next ((s.keepSlots k rest).raise (.denied n .floorHeld)).closePresentation)) ∧
  (∀ (s : State) (k n : Nat) (ev : KeyEvent) (rest : List KeySlot) (c : Context), s.Presenting k n ev .request rest →
     s.floor = .opened → s.eligible n = true → s.active = some c →
     (∀ ch, s.room = some ch → (c.mode = .direct ∨ (c.mode = .queued ∧ s.waiting = []) ∨ c.mode = .override) →
       exec (.request n) s = .next ((s.keepSlots k rest).grant ch n false).closePresentation) ∧
     (s.room = none → c.mode = .direct →
       exec (.request n) s = .next ((s.keepSlots k rest).raise (.denied n .noRoom)).closePresentation))

/-- R75, R82, R83: a request that is to join the list meets its capacity, and joins at the tail, or, a CHAIR under chair first,
directly after the last CHAIR entry, at the head if there is none. Whoever joins the list, by request, displacement or ENQUEUE, stands
there with its sweep number and the given entries before it, is WAITING with no channel bound, and raises QUEUED with its position
counted from 1; nothing else changes. -/
def Obligations.RequestJoinsWaitingList : Prop :=
  (∀ (s : State) (n k i : Nat), n ∈ seatNumbers → s.seats.length = 200 → i ≤ s.waiting.length →
    ∃ t, s.insertWaiting n k i = t ∧ t.waiting = s.waiting.take i ++ { seat := n, sweep := k } :: s.waiting.drop i ∧
      t.seat n = { s.seat n with place := .waiting, bound := none } ∧ s.OtherSeatsKept t n ∧
      s.HasRaised t [.queued n (i + 1)] ∧
      t = { s with waiting := t.waiting, seats := t.seats, notices := t.notices, overrun := t.overrun,
                   lostCount := t.lostCount }) ∧
  ∀ (s : State) (k n : Nat) (ev : KeyEvent) (rest : List KeySlot) (c : Context), s.Presenting k n ev .request rest →
    s.eligible n = true → s.active = some c → c.mode ≠ .direct →
    (s.floor = .held ∨ (s.floor = .opened ∧
      (c.mode = .moderated ∨ (c.mode = .queued ∧ (s.room = none ∨ s.waiting ≠ [])) ∨
        (c.mode = .override ∧ s.room = none ∧ ∀ e ∈ s.speakers, s.isChair e.seat = true)))) →
    (c.listLimit = 0 →
      exec (.request n) s = .next ((s.keepSlots k rest).raise (.denied n .noRoom)).closePresentation) ∧
    (0 < c.listLimit → c.listLimit ≤ s.waiting.length →
      exec (.request n) s = .next ((s.keepSlots k rest).raise (.denied n .listFull)).closePresentation) ∧
    (s.waiting.length < c.listLimit → ∃ i, i ≤ s.waiting.length ∧
      exec (.request n) s = .next ((s.keepSlots k rest).insertWaiting n k i).closePresentation ∧
      (c.chairFirst = false ∨ s.isChair n = false → i = s.waiting.length) ∧
      (c.chairFirst = true → s.isChair n = true →
        (∀ e ∈ s.waiting.drop i, s.isChair e.seat = false) ∧
        (i = 0 ∨ ∃ e, s.waiting[i - 1]? = some e ∧ s.isChair e.seat = true)))

/-- R85: an OVERRIDE request without room is denied NO_ROOM when the list limit is 0 and every other ordinary channel is RELEASING;
otherwise the oldest speaker whose seat is not CHAIR ends with reason DISPLACED; the requester takes the room that makes, or stands
at the head of the list, a full list's tail leaving TRUNCATED; then fill. -/
def Obligations.OverrideRequestDisplaces : Prop :=
  ∀ (s : State) (k n : Nat) (ev : KeyEvent) (rest : List KeySlot) (c : Context) (old : List Speaker) (e : Speaker)
    (young : List Speaker), s.Presenting k n ev .request rest → s.floor = .opened → s.eligible n = true →
    s.active = some c → c.mode = .override → s.room = none → s.speakers = old ++ e :: young →
    (∀ o ∈ old, s.isChair o.seat = true) → s.isChair e.seat = false →
    (c.listLimit = 0 →
      (∀ d, d ≠ .p → (∃ o ∈ s.speakers, o.chan = d) ∨ (s.chan d).state = .releasing) →
      exec (.request n) s = .next ((s.keepSlots k rest).raise (.denied n .noRoom)).closePresentation) ∧
    (¬(c.listLimit = 0 ∧ ∀ d, d ≠ .p → (∃ o ∈ s.speakers, o.chan = d) ∨ (s.chan d).state = .releasing) →
      ∃ u, u = (s.keepSlots k rest).release e.chan e.seat .displaced ∧
        (∀ ch, u.room = some ch → exec (.request n) s = .next ((u.grant ch n false).fill).closePresentation) ∧
        (u.room = none → s.waiting.length < c.listLimit →
          exec (.request n) s = .next ((u.insertWaiting n k 0).fill).closePresentation) ∧
        (∀ tail, u.room = none → c.listLimit ≤ s.waiting.length → s.waiting.getLast? = some tail →
          exec (.request n) s =
            .next (((u.removeWaiting tail.seat .truncated).insertWaiting n k 0).fill).closePresentation))

/-- R87: a withdraw removes the waiting entry WITHDRAWN, or ends the ordinary grant WITHDRAWN, and fill follows the end. -/
def Obligations.WithdrawLeavesFloor : Prop :=
  ∀ (s : State) (k n : Nat) (ev : KeyEvent) (rest : List KeySlot), s.Presenting k n ev .withdraw rest →
    ((s.seat n).place = .waiting →
      exec (.withdraw n) s = .next ((s.keepSlots k rest).removeWaiting n .withdrawn).closePresentation) ∧
    (∀ c, c ≠ .p → (s.seat n).place = .live → (s.seat n).bound = some c →
      exec (.withdraw n) s = .next ((s.keepSlots k rest).release c n .withdrawn).fill.closePresentation)

/-- R51, R79, R90, R91: a chair's next with the floor OPEN grants a batch in MODERATED, fills in QUEUED and OVERRIDE and is
dropped in DIRECT; with the floor HELD or CLOSED it is dropped. The NEXT directive is refused with the floor CLOSED or HELD and
else does the same, answered with the grants made. With the last slot of a returned sweep taken, the presentation is over and the
rotation pointer advances by one seat, from 200 to 1. -/
def Obligations.NextReleasesBatch : Prop :=
  (∀ (s : State) (k n : Nat) (ev : KeyEvent) (rest : List KeySlot), s.Presenting k n ev .next rest →
     (s.floor ≠ .opened → exec (.nextAction n) s = .next (s.keepSlots k rest).closePresentation) ∧
     (∀ c, s.floor = .opened → s.active = some c →
       (c.mode = .moderated →
         exec (.nextAction n) s = .next (State.grantHeads c.batch (s.keepSlots k rest)).closePresentation) ∧
       (c.mode = .queued ∨ c.mode = .override →
         exec (.nextAction n) s = .next (s.keepSlots k rest).fill.closePresentation) ∧
       (c.mode = .direct → exec (.nextAction n) s = .next (s.keepSlots k rest).closePresentation))) ∧
  (∀ (s : State) (tag : Byte) (rest : List Entry), s.Dispatching tag .next rest →
     (s.floor = .closed → exec .next s = .next ((s.withBuffer rest).reply tag (.refused .floorClosed))) ∧
     (s.floor = .held → exec .next s = .next ((s.withBuffer rest).reply tag (.refused .floorHeld))) ∧
     (∀ c u, s.floor = .opened → s.active = some c →
       (c.mode = .moderated → u = State.grantHeads c.batch (s.withBuffer rest)) →
       (c.mode = .queued ∨ c.mode = .override → u = (s.withBuffer rest).fill) →
       (c.mode = .direct → u = s.withBuffer rest) →
       exec .next s = .next (u.reply tag (.grantsMade (s.waiting.length - u.waiting.length))))) ∧
  (∀ (s : State) (k n : Nat) (ev : KeyEvent), s.Presenting k n ev .next [] → s.floor ≠ .opened → ∃ t,
     exec (.nextAction n) s = .next t ∧ t.rotation = (if s.rotation < 200 then s.rotation + 1 else 1) ∧
       t.owed.actions = none ∧ t = { s with rotation := t.rotation, owed := { s.owed with actions := none } })

/-- R48, R92, R107, R108: a chair's cancel is dropped, and CANCEL_ALL refused, with the floor CLOSED; otherwise each empties the waiting
list, raising DEQUEUED with reason CANCELLED from the head on, and then ends every ordinary grant, raising ENDED with reason CANCELLED
from the oldest on, and leaves channel P and the floor state as they are; the channels are RELEASING, the seats IDLE, those that held an
ordinary grant under the lockout in force; the directive is answered with the grants ended and the entries removed. Nothing else changes,
but that the key form's slot is taken, and for what an interval start still owed an ended grant (the model's own record, log entry 4). -/
def Obligations.CancelClearsFloor : Prop :=
  (∀ (s : State) (k n : Nat) (ev : KeyEvent) (rest : List KeySlot), s.Presenting k n ev .cancel rest →
     (s.floor = .closed → exec (.cancelAction n) s = .next (s.keepSlots k rest).closePresentation) ∧
     (s.floor ≠ .closed → s.FloorAgrees → ∃ t, exec (.cancelAction n) s = .next t ∧ t.waiting = [] ∧ t.speakers = [] ∧
       t.floor = s.floor ∧ t.chan .p = s.chan .p ∧
       s.HasRaised t (s.waiting.map (fun e => .dequeued e.seat .cancelled) ++ s.speakers.map (s.endedNotice .cancelled)) ∧
       s.OrdinaryCleared t ∧
       t.rotation = (s.keepSlots k rest).closePresentation.rotation ∧
       t.owed.actions = (s.keepSlots k rest).closePresentation.owed.actions ∧
       t = { s with waiting := [], speakers := [], channels := t.channels, seats := t.seats, rotation := t.rotation,
                    notices := t.notices, overrun := t.overrun, lostCount := t.lostCount,
                    owed := { s.owed with actions := t.owed.actions, lockouts := t.owed.lockouts,
                                          timers := t.owed.timers } })) ∧
  (∀ (s : State) (tag : Byte) (rest : List Entry), s.Dispatching tag .cancelAll rest →
     (s.floor = .closed → exec .cancelAll s = .next ((s.withBuffer rest).reply tag (.refused .floorClosed))) ∧
     (s.floor ≠ .closed → s.FloorAgrees → ∃ t, exec .cancelAll s = .next t ∧ t.waiting = [] ∧ t.speakers = [] ∧
       t.floor = s.floor ∧ t.chan .p = s.chan .p ∧ t.buffer = rest ∧
       s.HasRaised t (s.waiting.map (fun e => .dequeued e.seat .cancelled) ++ s.speakers.map (s.endedNotice .cancelled)) ∧
       t.replies = s.replies ++ [{ tag := tag, body := .cancelled s.speakers.length s.waiting.length }] ∧
       s.OrdinaryCleared t ∧
       t = { s with waiting := [], speakers := [], channels := t.channels, seats := t.seats, buffer := rest,
                    replies := t.replies, notices := t.notices, overrun := t.overrun, lostCount := t.lostCount,
                    owed := { s.owed with lockouts := t.owed.lockouts, timers := t.owed.timers } }))

/-- R124, R125: a held and armed PRIORITY level starts the intervention exactly when the floor is OPEN, channel P is FREE and the
seat is an enabled, present, unflagged CHAIR: the chair is granted channel P and the floor goes HELD, after the escalation of
whatever it held or awaited; otherwise it has no effect. -/
def Obligations.PriorityHeldStartsIntervention : Prop :=
  ∀ (s : State) (k n : Nat) (ev : KeyEvent) (rest : List KeySlot), s.Presenting k n ev .priorityHeld rest →
    (¬(s.floor = .opened ∧ (s.chan .p).state = .free ∧ s.entitledChair n = true) →
      exec (.priorityHeld n) s = .next (s.keepSlots k rest).closePresentation) ∧
    (s.floor = .opened → (s.chan .p).state = .free → s.entitledChair n = true →
      ((s.seat n).place = .idle →
        exec (.priorityHeld n) s =
          .next ({ (s.keepSlots k rest).grant .p n false with floor := .held }.raise (.heldBy n)).closePresentation) ∧
      ((s.seat n).place = .waiting →
        exec (.priorityHeld n) s =
          .next ({ ((s.keepSlots k rest).removeWaiting n .escalated).grant .p n false with floor := .held }.raise
            (.heldBy n)).closePresentation) ∧
      (∀ c, c ≠ .p → (s.seat n).place = .live → (s.seat n).bound = some c →
        exec (.priorityHeld n) s =
          .next ({ ((s.keepSlots k rest).release c n .escalated).fill.grant .p n false with floor := .held }.raise
            (.heldBy n)).closePresentation))

/-- R107, R108, R130 to R132: the holder's release ends channel P WITHDRAWN, its lockout as it was; the floor is OPEN, RESUMED is raised,
and fill follows. Under CLEAR every ordinary grant that stood is ended PRIORITY_CLEAR, oldest first, with the floor OPEN and each with its
fill, so that the heads of the list are granted in QUEUED and OVERRIDE while there is room and none is in DIRECT and MODERATED (that the
GRANTED of such a fill can stand between two of the ENDED is R132's, against R156's list, log entry 35); with the list empty the notices
are ENDED, RESUMED and then the ENDED of each. From any other seat the release has no effect. -/
def Obligations.PriorityReleasedEndsIntervention : Prop :=
  ∀ (s : State) (k n : Nat) (ev : KeyEvent) (rest : List KeySlot), s.Presenting k n ev .priorityReleased rest →
    (¬((s.chan .p).state = .live ∧ (s.chan .p).seat = some n) →
      exec (.priorityReleased n) s = .next (s.keepSlots k rest).closePresentation) ∧
    (∀ c, (s.chan .p).state = .live → (s.chan .p).seat = some n → s.active = some c →
      exec (.priorityReleased n) s = .next ((s.keepSlots k rest).interventionEnded n .withdrawn c).closePresentation ∧
      (c.priorityEnd = .clear → s.FloorAgrees → ∃ t, exec (.priorityReleased n) s = .next t ∧ t.floor = .opened ∧
        t.chan .p = { state := .releasing, seat := none, remaining := none, warned := false, held := (s.chan .p).held } ∧
        t.seat n = { s.seat n with place := .idle, bound := none } ∧
        (∀ e ∈ s.speakers,
          t.chan e.chan =
            { state := .releasing, seat := none, remaining := none, warned := false, held := (s.chan e.chan).held } ∧
          t.seat e.seat = { s.seat e.seat with place := .idle, bound := none, lockout := s.settings.lockout }) ∧
        (∃ j, t.waiting = s.waiting.drop j ∧ t.speakers.map Speaker.seat = (s.waiting.take j).map WaitEntry.seat ∧
          (c.mode = .direct ∨ c.mode = .moderated → j = 0)) ∧
        (c.mode = .queued ∨ c.mode = .override → t.waiting = [] ∨ c.maxLive ≤ t.speakers.length ∨
          ∀ d, d ≠ .p → (t.chan d).state ≠ .free) ∧
        (s.waiting = [] → s.HasRaised t (s.holderEnded .withdrawn ++ [.resumed n .clear] ++
          s.speakers.map (s.endedNotice .priorityClear)))))

/-! ## The conformance audit -/

/-- R50, R152 to R156: the audit's work for a returned sweep. The answered entries are compared one after another, in the order in which
the sweep hands them on: of a present seat an equal pair clears the mismatch count, a differing one raises it up to 15, and the one that
reaches the tolerance of a seat neither flagged nor pending makes it pending with its sense; a pending seat keeps its mark and sense; an
absent seat is not compared. With no entry left the search follows, which with no seat pending reports none. For the single entry of a
seat, no seat pending before it: one made pending is reported at once, DISCREPANCY with the sense of the comparison, the seat flagged,
the cursor at it. That its armed mark goes with the report is the model's reading (log entry 29); the entries due are the model's own
record (log entry 4). -/
def Obligations.AuditComparesAndReports : Prop :=
  (∀ s : State, (s.owed.audit = none → exec .auditSweep s = .next s) ∧
    (s.owed.audit = some [] → (∀ n ∈ seatNumbers, (s.seat n).pendingSense = none) →
      exec .auditSweep s = .next { s with owed := { s.owed with audit := none } })) ∧
  (∀ (s : State) (e : AuditEntry) (rest : List AuditEntry) (count : Nat), s.owed.audit = some (e :: rest) →
    count = min ((s.seat e.seat).mismatch + 1) 15 → ∃ u : State, exec .auditSweep s = exec .auditSweep u ∧
      u = { s with seats := u.seats, owed := { s.owed with audit := some rest } } ∧ s.OtherSeatsKept u e.seat ∧
      ((s.seat e.seat).present = false → u.seats = s.seats) ∧
      ((s.seat e.seat).present = true → e.commandedOpen = e.reportedOpen →
        u.seat e.seat = { s.seat e.seat with mismatch := 0 }) ∧
      ((s.seat e.seat).present = true → e.commandedOpen ≠ e.reportedOpen →
        ((s.seat e.seat).pendingSense.isSome = true ∨ (s.seat e.seat).flagged = true ∨ count < s.settings.auditTolerance →
          u.seat e.seat = { s.seat e.seat with mismatch := count }) ∧
        ((s.seat e.seat).pendingSense = none → (s.seat e.seat).flagged = false → s.settings.auditTolerance ≤ count →
          u.seat e.seat = { s.seat e.seat with
            mismatch := count, pendingSense := some (if e.commandedOpen then .reportedClosed else .reportedOpen) }))) ∧
  (∀ (s : State) (e : AuditEntry), s.owed.audit = some [e] → 1 ≤ e.seat → e.seat ≤ s.seats.length →
     (s.seat e.seat).present = true → (∀ n ∈ seatNumbers, (s.seat n).pendingSense = none) →
     (e.commandedOpen = e.reportedOpen → ∃ t, exec .auditSweep s = .next t ∧
       t.seat e.seat = { s.seat e.seat with mismatch := 0 } ∧ s.OtherSeatsKept t e.seat ∧
       t = { s with seats := t.seats, owed := { s.owed with audit := none } }) ∧
     (e.commandedOpen ≠ e.reportedOpen →
       (min ((s.seat e.seat).mismatch + 1) 15 < s.settings.auditTolerance ∨ (s.seat e.seat).flagged = true) →
       ∃ t, exec .auditSweep s = .next t ∧
         t.seat e.seat = { s.seat e.seat with mismatch := min ((s.seat e.seat).mismatch + 1) 15 } ∧
         s.OtherSeatsKept t e.seat ∧ t = { s with seats := t.seats, owed := { s.owed with audit := none } })) ∧
  (∀ (s : State) (e : AuditEntry), s.owed.audit = some [e] → e.seat ∈ seatNumbers → s.seats.length = 200 →
     (s.seat e.seat).present = true → (∀ n ∈ seatNumbers, (s.seat n).pendingSense = none) →
     e.commandedOpen ≠ e.reportedOpen → s.settings.auditTolerance ≤ min ((s.seat e.seat).mismatch + 1) 15 →
     (s.seat e.seat).flagged = false → (s.seat e.seat).place = .idle →
     ∃ t, exec .auditSweep s = .next t ∧ t.cursor = e.seat ∧
       t.seat e.seat =
         { s.seat e.seat with mismatch := min ((s.seat e.seat).mismatch + 1) 15, flagged := true, pendingSense := none,
                              armed := false } ∧
       s.OtherSeatsKept t e.seat ∧
       s.HasRaised t [.discrepancy e.seat (if e.commandedOpen then .reportedClosed else .reportedOpen)] ∧
       t = { s with seats := t.seats, cursor := t.cursor, notices := t.notices, overrun := t.overrun,
                    lostCount := t.lostCount, owed := { s.owed with audit := none } })

/-- R50, R131, R132, R154 to R156: with nothing to compare, the audit reports the first pending seat after the cursor, round through
200, and takes it off the floor: a waiting entry leaves FLAGGED, an ordinary grant ends UNIT_FAULT with its fill, the grant of channel P
ends UNIT_FAULT and with it the intervention. That the armed mark goes with the report is the model's reading (log entry 29), as is that
the notices of a CLEAR stand as R131 and R132 have them (log entry 35). -/
def Obligations.AuditReportsFirstPendingAfterCursor : Prop :=
  ∀ (s : State) (n : Nat) (sense : Sense), s.owed.audit = some [] → s.seats.length = 200 → s.cursor ≤ 200 →
    n ∈ seatNumbers → (s.seat n).pendingSense = some sense →
    (∀ m ∈ seatNumbers, (m + 199 - s.cursor) % 200 < (n + 199 - s.cursor) % 200 → (s.seat m).pendingSense = none) →
    ∃ u, u = { ((s.setOwed { s.owed with audit := none }).raise (.discrepancy n sense)).updSeat n
        (fun t => { t with flagged := true, pendingSense := none, armed := false }) with cursor := n } ∧
      ((s.seat n).place = .idle → exec .auditSweep s = .next u) ∧
      ((s.seat n).place = .waiting → exec .auditSweep s = .next (u.removeWaiting n .flagged)) ∧
      (∀ c, c ≠ .p → (s.seat n).place = .live → (s.seat n).bound = some c →
        exec .auditSweep s = .next (u.release c n .unitFault).fill) ∧
      (∀ ctx, (s.seat n).place = .live → (s.seat n).bound = some .p → s.active = some ctx →
        exec .auditSweep s = .next (u.interventionEnded n .unitFault ctx))

/-- R50, R159: CLEAR_FLAG clears the flagged mark, the pending mark and the count of the named seat, or of all 200, and reports how
many flags went; above 200 it is refused NOT_FOUND. That a seat that was flagged is not armed afterwards, R46 having its mark cleared
when it is next examined, is the model's reading (log entry 29). -/
def Obligations.ClearFlagClearsMarks : Prop :=
  ∀ (s : State) (tag : Byte) (n : Nat) (rest : List Entry), s.Dispatching tag (.clearFlag n) rest → s.seats.length = 200 →
    (200 < n → exec .clearFlag s = .next ((s.withBuffer rest).reply tag (.refused .notFound))) ∧
    (1 ≤ n → n ≤ 200 → ∃ t, exec .clearFlag s = .next t ∧
      t.seat n = { s.seat n with flagged := false, pendingSense := none, mismatch := 0,
                                 armed := (s.seat n).armed && !(s.seat n).flagged } ∧ s.OtherSeatsKept t n ∧
      t = { s with seats := t.seats, buffer := rest,
                   replies := s.replies ++
                     [{ tag := tag, body := .flagsCleared (if (s.seat n).flagged then 1 else 0) }] }) ∧
    (n = 0 → ∃ t, exec .clearFlag s = .next t ∧
      (∀ m, 1 ≤ m → m ≤ 200 → t.seat m = { s.seat m with flagged := false, pendingSense := none, mismatch := 0,
                                                         armed := (s.seat m).armed && !(s.seat m).flagged }) ∧
      t = { s with seats := t.seats, buffer := rest,
                   replies := s.replies ++
                     [{ tag := tag, body := .flagsCleared (seatNumbers.filter fun m => (s.seat m).flagged).length }] })

/-! ## Channels -/

/-- R78, R88 to R90, R113: the RELEASING channel reported at gain 0 becomes FREE, and fill follows. Granting up to k heads stops when
the list is empty or there is no room; else the head leaves the list and is granted the lowest-numbered FREE ordinary channel, and up
to k - 1 more follow. Fill grants heads in QUEUED and OVERRIDE with the floor OPEN until the list is empty or there is no room, and
does nothing in any other mode or floor state. -/
def Obligations.FillAndBatchGrantFromTheHead : Prop :=
  (∀ (s : State) (c : Chan), c ∈ s.owed.freed → (s.chan c).state = .releasing →
    exec (.channelFreed c) s = .next
      ((s.setChan c { s.chan c with state := .free }).setOwed
        { s.owed with freed := s.owed.freed.filter fun d => d != c }).fill) ∧
  (∀ (s : State) (k : Nat),
    (k = 0 ∨ s.waiting = [] ∨ (∀ c, c ≠ .p → (s.chan c).state ≠ .free) ∨
        (∀ ctx, s.active = some ctx → ctx.maxLive ≤ s.speakers.length) →
      State.grantHeads k s = s) ∧
    (∀ e rest ctx c, s.waiting = e :: rest → s.active = some ctx → s.speakers.length < ctx.maxLive → c ≠ .p →
      (s.chan c).state = .free → (∀ d, d ≠ .p → d.code < c.code → (s.chan d).state ≠ .free) →
      State.grantHeads (k + 1) s = State.grantHeads k ({ s with waiting := rest }.grant c e.seat true)) ∧
    (∃ j, j ≤ k ∧ (State.grantHeads k s).waiting = s.waiting.drop j ∧
      (State.grantHeads k s).speakers.map Speaker.seat = s.speakers.map Speaker.seat ++ (s.waiting.take j).map WaitEntry.seat)) ∧
  (∀ (s : State) (ctx : Context), s.active = some ctx →
    ((ctx.mode = .queued ∨ ctx.mode = .override) → s.floor = .opened →
      s.fill = State.grantHeads s.waiting.length s ∧
      (s.fill.waiting = [] ∨ ctx.maxLive ≤ s.fill.speakers.length ∨ ∀ c, c ≠ .p → (s.fill.chan c).state ≠ .free)) ∧
    (ctx.mode = .direct ∨ ctx.mode = .moderated ∨ s.floor ≠ .opened → s.fill = s)) ∧
  (∀ s : State, s.active = none → s.fill = s)

/-- R93: GRANT takes the first row of its table that fits the state at dispatch. -/
def Obligations.OperatorGrantTakesFirstRow : Prop :=
  ∀ (s : State) (tag : Byte) (n : Nat) (rest : List Entry), s.Dispatching tag (.grant n) rest →
    (s.floor = .closed → exec .grant s = .next ((s.withBuffer rest).reply tag (.refused .floorClosed))) ∧
    (s.floor = .held → exec .grant s = .next ((s.withBuffer rest).reply tag (.refused .floorHeld))) ∧
    (s.floor = .opened → s.trunk = .down → exec .grant s = .next ((s.withBuffer rest).reply tag (.refused .trunkDown))) ∧
    (s.floor = .opened → s.trunk = .up → s.eligible n = false →
      exec .grant s = .next ((s.withBuffer rest).reply tag (.refused .notEligible))) ∧
    (s.floor = .opened → s.trunk = .up → s.eligible n = true →
      (∀ c, c ≠ .p → (s.seat n).bound = some c →
        exec .grant s = .next ((s.withBuffer rest).reply tag (.granted c false))) ∧
      ((s.seat n).bound = none → s.room = none →
        exec .grant s = .next ((s.withBuffer rest).reply tag (.refused .noChannel))) ∧
      (∀ c, (s.seat n).bound = none → s.room = some c → (s.seat n).place = .waiting →
        exec .grant s = .next ((((s.withBuffer rest).leaveSilently n).grant c n true).reply tag (.granted c true))) ∧
      (∀ c, (s.seat n).bound = none → s.room = some c → (s.seat n).place = .idle → n ∉ s.waiting.map WaitEntry.seat →
        exec .grant s = .next (((s.withBuffer rest).grant c n false).reply tag (.granted c false))))

/-- R104, R105 and the last row of R93: the GRANT of an IDLE seat binds the lowest-numbered FREE ordinary channel to it: the
channel LIVE, its held count 0, its timer and warned mark by the context, the seat LIVE, the speaker list longer by it at the
tail, GRANTED and, if the grant is made warned, WARNING raised; nothing else changes, the lockout among it. So with every Grant, of any
channel and from the list or not: the grant of channel P is untimed, not warned and in no list, and GRANTED carries the channel and
from list yes or no. -/
def Obligations.OperatorGrantBindsChannel : Prop :=
  (∀ (s : State) (c : Chan) (n : Nat) (l : Bool) (ctx : Context), s.active = some ctx → n ∈ seatNumbers → s.seats.length = 200 →
    ∃ t timed warned, s.grant c n l = t ∧
      timed = (c ≠ .p ∧ 0 < ctx.limit ∧ ((s.seat n).config.cls = .chair → ctx.chairTimed = true)) ∧
      warned = (timed ∧ 0 < ctx.warningLead ∧ ctx.limit ≤ ctx.warningLead) ∧
      (t.chan c).state = .live ∧ (t.chan c).seat = some n ∧ (t.chan c).held = 0 ∧
      (timed → (t.chan c).remaining = some (ctx.limit * 500)) ∧ (¬timed → (t.chan c).remaining = none) ∧
      ((t.chan c).warned = true ↔ warned) ∧ s.OtherChannelsKept t c ∧
      t.seat n = { s.seat n with place := .live, bound := some c } ∧ s.OtherSeatsKept t n ∧
      t.speakers = (if c = .p then s.speakers else s.speakers ++ [{ chan := c, seat := n }]) ∧
      (warned → s.HasRaised t [.granted n c l, .warning n c (ctx.limit * 500 / 50)]) ∧
      (¬warned → s.HasRaised t [.granted n c l]) ∧
      t = { s with channels := t.channels, seats := t.seats, speakers := t.speakers, notices := t.notices,
                   overrun := t.overrun, lostCount := t.lostCount }) ∧
  ∀ (s : State) (tag : Byte) (n : Nat) (rest : List Entry) (ctx : Context) (c : Chan),
    s.Dispatching tag (.grant n) rest → s.floor = .opened → s.trunk = .up → s.eligible n = true → s.active = some ctx →
    n ∈ seatNumbers → s.seats.length = 200 → (s.seat n).place = .idle → (s.seat n).bound = none →
    n ∉ s.waiting.map WaitEntry.seat → s.speakers.length < ctx.maxLive → c ≠ .p → (s.chan c).state = .free →
    (∀ d, d ≠ .p → d.code < c.code → (s.chan d).state ≠ .free) →
    ∃ t timed warned,
      timed = (0 < ctx.limit ∧ ((s.seat n).config.cls = .chair → ctx.chairTimed = true)) ∧
      warned = (timed ∧ 0 < ctx.warningLead ∧ ctx.limit ≤ ctx.warningLead) ∧
      exec .grant s = .next t ∧
      (t.chan c).state = .live ∧ (t.chan c).seat = some n ∧ (t.chan c).held = 0 ∧
      (timed → (t.chan c).remaining = some (ctx.limit * 500)) ∧ (¬timed → (t.chan c).remaining = none) ∧
      ((t.chan c).warned = true ↔ warned) ∧ s.OtherChannelsKept t c ∧
      t.seat n = { s.seat n with place := .live, bound := some c } ∧ s.OtherSeatsKept t n ∧
      t.speakers = s.speakers ++ [{ chan := c, seat := n }] ∧
      (warned → s.HasRaised t [.granted n c false, .warning n c (ctx.limit * 500 / 50)]) ∧
      (¬warned → s.HasRaised t [.granted n c false]) ∧
      t = { s with buffer := rest, replies := s.replies ++ [{ tag := tag, body := .granted c false }],
                   channels := t.channels, seats := t.seats, speakers := t.speakers, notices := t.notices,
                   overrun := t.overrun, lostCount := t.lostCount }

/-- R48, R94, R106 to R109, R131, R132: REVOKE ends the grant of a LIVE seat REVOKED with what completes the end, removes a WAITING seat
REMOVED, and is refused NOT_FOUND for an IDLE one; whatever the reason, the end of a seat's grant is completed by its channel. Of any
channel and with any reason, an End leaves the channel RELEASING without seat, timer and warned mark and with its held count, the seat
IDLE, its lockout as it was when the reason is WITHDRAWN and loaded with the setting in force when it is any other, an ordinary channel's
entry gone from the speaker list, and raises ENDED with the reason and the held count in tenths of a second up to 65,535; nothing else
changes, but for a timer and a replaced lockout of theirs that an interval start still owed (the model's own record, log entry 4). With
the waiting list empty REVOKE's fill adds nothing to that. -/
def Obligations.RevokeTakesSeatOff : Prop :=
  (∀ (s : State) (tag : Byte) (n : Nat) (rest : List Entry), s.Dispatching tag (.revoke n) rest →
    ((s.seat n).place = .idle → exec .revoke s = .next ((s.withBuffer rest).reply tag (.refused .notFound))) ∧
    ((s.seat n).place = .waiting →
      exec .revoke s = .next (((s.withBuffer rest).removeWaiting n .removed).reply tag (.revoked .removed))) ∧
    (∀ c, c ≠ .p → (s.seat n).place = .live → (s.seat n).bound = some c →
      exec .revoke s = .next (((s.withBuffer rest).release c n .revoked).fill.reply tag (.revoked .revoked))) ∧
    (∀ ctx : Context, (s.seat n).place = .live → (s.seat n).bound = some .p → s.active = some ctx →
      exec .revoke s = .next (((s.withBuffer rest).interventionEnded n .revoked ctx).reply tag (.revoked .revoked)))) ∧
  (∀ (s : State) (n : Nat) (r : Reason),
    ((s.seat n).bound = none → s.endSeat n r = s) ∧
    (∀ c, c ≠ .p → (s.seat n).bound = some c → s.endSeat n r = (s.release c n r).fill) ∧
    (∀ ctx, (s.seat n).bound = some .p → s.active = some ctx → s.endSeat n r = s.interventionEnded n r ctx)) ∧
  (∀ (s : State) (c : Chan) (n : Nat) (r : Reason), n ∈ seatNumbers → s.seats.length = 200 → ∃ t, s.release c n r = t ∧
    t.chan c = { state := .releasing, seat := none, remaining := none, warned := false, held := (s.chan c).held } ∧
    s.OtherChannelsKept t c ∧ s.OtherSeatsKept t n ∧
    (r = .withdrawn → t.seat n = { s.seat n with place := .idle, bound := none } ∧ t.owed.lockouts = s.owed.lockouts) ∧
    (r ≠ .withdrawn → t.seat n = { s.seat n with place := .idle, bound := none, lockout := s.settings.lockout } ∧
      t.owed.lockouts = s.owed.lockouts.filter fun m => m != n) ∧
    t.speakers = (if c = .p then s.speakers else s.speakers.filter fun e => e.chan != c) ∧
    s.HasRaised t [.ended n c r (min ((s.chan c).held / 50) 65535)] ∧
    t = { s with channels := t.channels, seats := t.seats, speakers := t.speakers, notices := t.notices,
                 overrun := t.overrun, lostCount := t.lostCount,
                 owed := { s.owed with lockouts := t.owed.lockouts,
                                       timers := s.owed.timers.filter fun d => d != c } }) ∧
  (∀ (s : State) (tag : Byte) (n : Nat) (rest : List Entry) (c : Chan), s.Dispatching tag (.revoke n) rest →
    n ∈ seatNumbers → s.seats.length = 200 → (s.seat n).place = .live → (s.seat n).bound = some c → c ≠ .p →
    s.waiting = [] → ∃ t, exec .revoke s = .next t ∧
      t.chan c = { state := .releasing, seat := none, remaining := none, warned := false, held := (s.chan c).held } ∧
      s.OtherChannelsKept t c ∧
      t.seat n = { s.seat n with place := .idle, bound := none, lockout := s.settings.lockout } ∧ s.OtherSeatsKept t n ∧
      t.speakers = s.speakers.filter (fun e => e.chan != c) ∧
      s.HasRaised t [.ended n c .revoked (min ((s.chan c).held / 50) 65535)] ∧
      t = { s with buffer := rest, replies := s.replies ++ [{ tag := tag, body := .revoked .revoked }],
                   channels := t.channels, seats := t.seats, speakers := t.speakers, notices := t.notices,
                   overrun := t.overrun, lostCount := t.lostCount,
                   owed := { s.owed with lockouts := s.owed.lockouts.filter fun m => m != n,
                                         timers := s.owed.timers.filter fun d => d != c } })

/-- R119, R120: EXTEND adds the seconds to a timed ordinary grant up to 1,800,000 sweep intervals and clears the warned mark
above the lead; it is refused NOT_FOUND for a seat not LIVE on an ordinary channel and NO_TIMER for an untimed grant. -/
def Obligations.ExtendAddsTime : Prop :=
  ∀ (s : State) (tag : Byte) (n secs : Nat) (rest : List Entry), s.Dispatching tag (.extend n secs) rest →
    ((s.seat n).bound = none ∨ (s.seat n).bound = some .p →
      exec .extend s = .next ((s.withBuffer rest).reply tag (.refused .notFound))) ∧
    (∀ c, c ≠ .p → (s.seat n).bound = some c → (s.chan c).remaining = none →
      exec .extend s = .next ((s.withBuffer rest).reply tag (.refused .noTimer))) ∧
    (∀ c r ctx, c ≠ .p → (s.seat n).bound = some c → (s.chan c).remaining = some r → s.active = some ctx →
      ∃ t, exec .extend s = .next t ∧
        (t.chan c).remaining = some (min (r + secs * 500) 1800000) ∧
        ((t.chan c).warned = true ↔
          ((s.chan c).warned = true ∧ min (r + secs * 500) 1800000 ≤ ctx.warningLead * 500)) ∧
        (t.chan c).state = (s.chan c).state ∧ (t.chan c).seat = (s.chan c).seat ∧ (t.chan c).held = (s.chan c).held ∧
        s.OtherChannelsKept t c ∧
        t = { s with buffer := rest, channels := t.channels,
                     replies := s.replies ++
                       [{ tag := tag, body := .extended c (min (r + secs * 500) 1800000 / 50) }] })

/-! ## The waiting list by directive -/

/-- R76, R95, R96: ENQUEUE takes the first row of its table that fits; the position is fitted to 1 to length + 1, the entry stands there
with the number of the sweep last emitted, and fill follows. REMOVE takes a WAITING seat out of the list with reason REMOVED, and is
refused NOT_FOUND for any other, its grant untouched; with the list empty it is refused NOT_FOUND. Whatever the reason of a removal,
the seat is IDLE with its lockout as it was, its entry is gone, those behind it close up, and DEQUEUED is raised with that reason. -/
def Obligations.EnqueueAndRemoveSeat : Prop :=
  (∀ (s : State) (n : Nat) (r : Reason), n ∈ seatNumbers → s.seats.length = 200 → ∃ t, s.removeWaiting n r = t ∧
    t.seat n = { s.seat n with place := .idle, bound := none } ∧ s.OtherSeatsKept t n ∧
    t.waiting = s.waiting.filter (fun e => e.seat != n) ∧ s.HasRaised t [.dequeued n r] ∧
    t = { s with seats := t.seats, waiting := t.waiting, notices := t.notices, overrun := t.overrun,
                 lostCount := t.lostCount }) ∧
  (∀ (s : State) (tag : Byte) (n pos : Nat) (rest : List Entry), s.Dispatching tag (.enqueue n pos) rest →
    (s.floor = .closed → exec .enqueue s = .next ((s.withBuffer rest).reply tag (.refused .floorClosed))) ∧
    (s.floor ≠ .closed → (s.eligible n = false ∨ (s.seat n).place ≠ .idle) →
      exec .enqueue s = .next ((s.withBuffer rest).reply tag (.refused .notEligible))) ∧
    (∀ c, s.floor ≠ .closed → s.eligible n = true → (s.seat n).place = .idle → s.active = some c →
      (c.mode = .direct → exec .enqueue s = .next ((s.withBuffer rest).reply tag (.refused .noRoom))) ∧
      (c.mode ≠ .direct → c.listLimit ≤ s.waiting.length →
        exec .enqueue s = .next ((s.withBuffer rest).reply tag (.refused .listFull))) ∧
      (∀ p, c.mode ≠ .direct → s.waiting.length < c.listLimit →
        (pos = 0 → p = 1) → (1 ≤ pos → pos ≤ s.waiting.length + 1 → p = pos) →
        (s.waiting.length + 1 < pos → p = s.waiting.length + 1) →
        exec .enqueue s =
          .next (((s.withBuffer rest).insertWaiting n s.lastEmitted (p - 1)).fill.reply tag (.position p)) ∧
        ((s.withBuffer rest).insertWaiting n s.lastEmitted (p - 1)).waiting[p - 1]? =
          some { seat := n, sweep := s.lastEmitted }))) ∧
  (∀ (s : State) (tag : Byte) (n : Nat) (rest : List Entry), s.Dispatching tag (.remove n) rest →
    ((s.seat n).place = .waiting → n ∈ seatNumbers → s.seats.length = 200 → ∃ t, exec .remove s = .next t ∧
      t.seat n = { s.seat n with place := .idle, bound := none } ∧ s.OtherSeatsKept t n ∧
      t.waiting = s.waiting.filter (fun e => e.seat != n) ∧ s.HasRaised t [.dequeued n .removed] ∧
      t = { s with buffer := rest, replies := s.replies ++ [{ tag := tag, body := .done }], seats := t.seats,
                   waiting := t.waiting, notices := t.notices, overrun := t.overrun, lostCount := t.lostCount }) ∧
    ((s.seat n).place ≠ .waiting →
      exec .remove s = .next { s with buffer := rest, replies := s.replies ++ [{ tag := tag, body := .refused .notFound }] }) ∧
    (s.FloorAgrees → n ∈ seatNumbers → s.waiting = [] →
      exec .remove s = .next { s with buffer := rest, replies := s.replies ++ [{ tag := tag, body := .refused .notFound }] }))

/-! ## The seat table -/

/-- R21 to R24, R126: LOAD_SEATS writes the run's entries at once and no other entry, and touches no seat's presence, silence count,
accepted levels, mismatch count, pending or flagged mark; with no seat on the floor it changes nothing else. The seats of the run whose
entry changed and no longer fits their place are taken off the floor DISABLED in two ascending passes, every waiting entry first and
then every grant, each with what completes it, the grant of channel P with the end of the intervention. That a changed entry which no
longer entitles its seat to the PRIORITY key clears its armed mark is the model's reading (log entry 29). -/
def Obligations.LoadSeatsWritesRun : Prop :=
  (∀ (s : State) (tag : Byte) (first : Nat) (l : List SeatConfig) (rest : List Entry),
     s.Dispatching tag (.loadSeats first l) rest → 1 ≤ first → first + l.length ≤ 201 → s.seats.length = 200 →
     ∃ t, exec .loadSeats s = .next t ∧
       (∀ n, (t.seat n).config = (if first ≤ n then l.getD (n - first) (s.seat n).config else (s.seat n).config)) ∧
       (∀ n, (t.seat n).present = (s.seat n).present ∧ (t.seat n).silence = (s.seat n).silence ∧
         (t.seat n).keys = (s.seat n).keys ∧ (t.seat n).mismatch = (s.seat n).mismatch ∧
         (t.seat n).pendingSense = (s.seat n).pendingSense ∧ (t.seat n).flagged = (s.seat n).flagged ∧
         (t.seat n).armed = ((s.seat n).armed && ((t.seat n).config == (s.seat n).config ||
           (t.seat n).config.enabled && (t.seat n).config.cls == .chair))) ∧
       t.replies = s.replies ++ [{ tag := tag, body := .seatsLoaded first l.length }] ∧
       ((∀ n ∈ seatNumbers, (s.seat n).place = .idle) →
         t = { s with buffer := rest, seats := t.seats, replies := t.replies } ∧
         ∀ n, t.seat n = { s.seat n with config := (t.seat n).config, armed := (t.seat n).armed })) ∧
  (∀ (s : State) (tag : Byte) (first : Nat) (l : List SeatConfig) (rest : List Entry),
     s.Dispatching tag (.loadSeats first l) rest → 1 ≤ first → first + l.length ≤ 201 → s.seats.length = 200 →
     ∃ u : State, u = { s.withBuffer rest with seats := u.seats } ∧ u.seats.length = 200 ∧
       (∀ n, u.seat n = { s.seat n with config := (u.seat n).config, armed := (u.seat n).armed } ∧
         (u.seat n).config = (if first ≤ n then l.getD (n - first) (s.seat n).config else (s.seat n).config)) ∧
       exec .loadSeats s = .next
         (((seatNumbers.filter fun n => (s.seat n).place == .live && s.madeUnfit first l n).foldl
             (fun v n => v.endSeat n .disabled)
             ((seatNumbers.filter fun n => (s.seat n).place == .waiting && s.madeUnfit first l n).foldl
               (fun v n => v.removeWaiting n .disabled) u)).reply tag (.seatsLoaded first l.length))) ∧
  (∀ (s : State) (tag : Byte) (n : Nat) (x : SeatConfig) (rest : List Entry),
     s.Dispatching tag (.loadSeats n [x]) rest → n ∈ seatNumbers → s.seats.length = 200 → (s.seat n).config ≠ x →
     ∃ u, u = (s.withBuffer rest).updSeat n
         (fun t => { t with config := x, armed := t.armed && x.enabled && x.cls == .chair }) ∧
       (∀ ctx, s.active = some ctx → (x.enabled = false ∨ ctx.admitted.admits x.cls = false) →
         ((s.seat n).place = .waiting →
           exec .loadSeats s = .next ((u.removeWaiting n .disabled).reply tag (.seatsLoaded n 1))) ∧
         (∀ c, c ≠ .p → (s.seat n).place = .live → (s.seat n).bound = some c →
           exec .loadSeats s = .next ((u.release c n .disabled).fill.reply tag (.seatsLoaded n 1)))) ∧
       (∀ ctx, s.active = some ctx → (s.seat n).place = .live → (s.seat n).bound = some .p →
         ((x.enabled = false ∨ x.cls ≠ .chair) →
           exec .loadSeats s = .next ((u.interventionEnded n .disabled ctx).reply tag (.seatsLoaded n 1))) ∧
         (x.enabled = true → x.cls = .chair → exec .loadSeats s = .next (u.reply tag (.seatsLoaded n 1)))) ∧
       (∀ ctx, s.active = some ctx → x.enabled = true → ctx.admitted.admits x.cls = true → (s.seat n).bound ≠ some .p →
         exec .loadSeats s = .next (u.reply tag (.seatsLoaded n 1))))

/-- R26, R169: READ_SEATS and READ_FLOOR change no state and answer with the run's records and with the floor as they stand. -/
def Obligations.ReadsReportTheState : Prop :=
  (∀ (s : State) (tag : Byte) (first count : Nat) (rest : List Entry), s.Dispatching tag (.readSeats first count) rest →
     exec .readSeats s = .next { s with
       buffer := rest
       replies := s.replies ++ [{ tag := tag, body := .seatsRead first count ((List.range count).map fun i =>
         { config := (s.seat (first + i)).config, present := (s.seat (first + i)).present,
           flagged := (s.seat (first + i)).flagged, pending := (s.seat (first + i)).pendingSense.isSome,
           place := (s.seat (first + i)).place, bound := (s.seat (first + i)).bound,
           mismatch := (s.seat (first + i)).mismatch }) }] }) ∧
  (∀ (s : State) (tag : Byte) (rest : List Entry), s.Dispatching tag .readFloor rest → ∃ f,
     exec .readFloor s = .next { s with buffer := rest, replies := s.replies ++ [{ tag := tag, body := .floorRead f }] } ∧
     f.floor = s.floor ∧ f.item = (match s.agenda with | [] => 0 | a :: _ => a.item) ∧ f.count = s.agenda.length ∧
     f.trunk = s.trunk ∧ f.waiting = s.waiting ∧
     (∀ c, (f.channels.get c).state = (s.chan c).state ∧ (f.channels.get c).seat = (s.chan c).seat ∧
       (f.channels.get c).remaining = (s.chan c).remaining.map fun r => r / 50) ∧
     f.bytes.length = 42 + 3 * s.waiting.length)

/-! ## The agenda -/

/-- R58, R59: STAGE_ITEM opens the floor from an empty queue, raising ITEM_CHANGED, is appended as the staged context behind one
entry, and is refused AGENDA_FULL behind two. -/
def Obligations.StageItemOpensOrStages : Prop :=
  ∀ (s : State) (tag : Byte) (c : Context) (rest : List Entry), s.Dispatching tag (.stageItem c) rest →
    (s.agenda = [] → s.waiting = [] →
      exec .stageItem s = .next
        (({ s.withBuffer rest with agenda := [c], floor := .opened }.raise (.itemChanged c.item c.mode)).reply tag
          (.position 1))) ∧
    (∀ a, s.agenda = [a] →
      exec .stageItem s = .next ({ s.withBuffer rest with agenda := [a, c] }.reply tag (.position 2))) ∧
    (∀ a b l, s.agenda = a :: b :: l →
      exec .stageItem s = .next ((s.withBuffer rest).reply tag (.refused .agendaFull)))

/-- R48, R60, R67, R71, R107, R108: ADVANCE_ITEM takes the first row of its table: refused with the queue empty, with the floor HELD or
with nothing staged under KEEP; under CLOSE the last context's removal closes the floor: every grant ends CLOSED, oldest first, every
waiting entry leaves CLOSED, head first, and FLOOR_CLOSED is raised with the closing item and reason CLOSED; the channels are RELEASING,
the seats IDLE, those that held a grant under the lockout in force. Nothing else changes, but for what an interval start still owed an
ended grant (the model's own record, log entry 4). -/
def Obligations.AdvanceItemRefusesOrCloses : Prop :=
  ∀ (s : State) (tag : Byte) (rest : List Entry), s.Dispatching tag .advanceItem rest →
    (s.agenda = [] → exec .advanceItem s = .next ((s.withBuffer rest).reply tag (.refused .floorClosed))) ∧
    (s.agenda ≠ [] → s.floor = .held →
      exec .advanceItem s = .next ((s.withBuffer rest).reply tag (.refused .floorHeld))) ∧
    (∀ a, s.agenda = [a] → s.floor ≠ .held → s.settings.agendaEmpty = .keep →
      exec .advanceItem s = .next ((s.withBuffer rest).reply tag (.refused .nothingStaged))) ∧
    (∀ a, s.agenda = [a] → s.floor ≠ .held → s.settings.agendaEmpty = .close → s.FloorAgrees →
      ∃ t, exec .advanceItem s = .next t ∧ s.FloorCleared t ∧
        s.HasRaised t (s.speakers.map (s.endedNotice .closed) ++ s.waiting.map (fun e => .dequeued e.seat .closed) ++
          [.floorClosed a.item .closed]) ∧
        t = { s with agenda := [], floor := .closed, waiting := [], speakers := [], channels := t.channels, seats := t.seats,
                     notices := t.notices, overrun := t.overrun, lostCount := t.lostCount, buffer := rest,
                     replies := s.replies ++ [{ tag := tag, body := .entriesLeft 0 }],
                     owed := { s.owed with lockouts := t.owed.lockouts, timers := t.owed.timers } })

/-- R48, R61 to R66, R107, R108: a changeover makes the staged context active. Without carry every grant ends, oldest first, and every
entry leaves, head first, all with reason ITEM_CHANGE, and ITEM_CHANGED is raised; the channels are RELEASING, the seats IDLE, those that
held a grant under the lockout in force, and nothing else changes, but for what an interval start still owed an ended grant (the model's
own record, log entry 4). With carry the grants of classes not admitted end, oldest
first, then those beyond max live, youngest first, ITEM_CHANGE; the entries of classes not admitted leave ITEM_CHANGE, all of them
under DIRECT, those beyond the list limit TRUNCATED from the tail; each surviving grant's timer and warned mark are fitted, WARNING
being raised where the mark is new, and one that stands at 0 under REVOKE ends EXPIRED; ITEM_CHANGED is raised and fill follows. That
an EXPIRED end is made as its grant is fitted is the model's choice (log entry 26); that a decrement still due stays due for a grant that
survives is its reading (log entry 14). -/
def Obligations.ChangeoverFitsFloor : Prop :=
  ∀ (s : State) (tag : Byte) (rest : List Entry) (a c : Context), s.Dispatching tag .advanceItem rest → s.agenda = [a, c] →
    s.floor = .opened → s.FloorAgrees →
    (c.carryFloor = false → ∃ t, exec .advanceItem s = .next t ∧ s.FloorCleared t ∧ t.chan .p = s.chan .p ∧
      s.HasRaised t (s.speakers.map (s.endedNotice .itemChange) ++
        s.waiting.map (fun e => .dequeued e.seat .itemChange) ++ [.itemChanged c.item c.mode]) ∧
      t = { s with agenda := [c], floor := .opened, waiting := [], speakers := [], channels := t.channels, seats := t.seats,
                   notices := t.notices, overrun := t.overrun, lostCount := t.lostCount, buffer := rest,
                   replies := s.replies ++ [{ tag := tag, body := .entriesLeft 1 }],
                   owed := { s.owed with lockouts := t.owed.lockouts, timers := t.owed.timers } }) ∧
    (c.carryFloor = true → ∃ u, exec .advanceItem s = .next (u.fill.reply tag (.entriesLeft 1)) ∧
      u = { s with agenda := [c], buffer := rest, speakers := u.speakers, waiting := u.waiting, channels := u.channels,
                   seats := u.seats, notices := u.notices, overrun := u.overrun, lostCount := u.lostCount,
                   owed := { s.owed with lockouts := u.owed.lockouts, timers := u.owed.timers } } ∧
      u.speakers = (s.survivors c).filter (fun e => !s.expiredUnder c e) ∧ u.waiting = s.entriesKept c ∧
      s.HasRaised u (s.fitNotices c ++ [.itemChanged c.item c.mode]) ∧
      (∀ e ∈ u.speakers, u.chan e.chan =
        { s.chan e.chan with remaining := s.timeUnder c e, warned := s.warnedUnder c e }) ∧
      (∀ e ∈ s.speakers, e ∉ u.speakers →
        u.chan e.chan =
          { state := .releasing, seat := none, remaining := none, warned := false, held := (s.chan e.chan).held } ∧
        u.seat e.seat = { s.seat e.seat with place := .idle, bound := none, lockout := s.settings.lockout }) ∧
      (∀ e ∈ s.waiting, e ∉ u.waiting → u.seat e.seat = { s.seat e.seat with place := .idle, bound := none }) ∧
      (∀ d, (∀ e ∈ s.speakers, e.chan ≠ d) → u.chan d = s.chan d) ∧
      (∀ d, d ∈ u.owed.timers ↔ d ∈ s.owed.timers ∧ ∀ e ∈ s.speakers, e.chan = d → e ∈ u.speakers) ∧
      (∀ n, n ∈ u.owed.lockouts ↔ n ∈ s.owed.lockouts ∧ ∀ e ∈ s.speakers, e.seat = n → e ∈ u.speakers) ∧
      (∀ n, (∀ e ∈ s.speakers, e.seat = n → e ∈ u.speakers) → (∀ e ∈ s.waiting, e.seat = n → e ∈ u.waiting) →
        u.seat n = s.seat n))

/-- R48, R67 to R69, R71, R107, R108, R131: FLUSH_AGENDA is refused FLOOR_CLOSED with the queue empty. Under KEEP it drops what is staged;
the ordinary grants end FLUSHED, oldest first, every waiting entry leaves FLUSHED, head first, and then, where the floor is HELD, channel P
ends FLUSHED, the floor is OPEN and RESUMED is raised; ITEM_CHANGED is not raised. Under CLOSE it empties the queue and closes the floor:
channel P first, if it is LIVE, then the ordinary grants and the waiting entries, all FLUSHED, and FLOOR_CLOSED with the active item and
reason FLUSHED, with no RESUMED. Either way every channel that was LIVE is RELEASING and every seat IDLE, those that held a grant under
the lockout in force. Nothing else changes, but for what an interval start still owed an ended grant (the model's own record, log
entry 4). -/
def Obligations.FlushAgendaClearsFloor : Prop :=
  ∀ (s : State) (tag : Byte) (rest : List Entry), s.Dispatching tag .flushAgenda rest →
    (s.agenda = [] → exec .flushAgenda s = .next ((s.withBuffer rest).reply tag (.refused .floorClosed))) ∧
    (∀ a later, s.agenda = a :: later → s.FloorAgrees → ∃ t, exec .flushAgenda s = .next t ∧ s.FloorCleared t ∧
      (s.settings.agendaEmpty = .keep → t.agenda = [a] ∧ t.floor = .opened ∧
        s.HasRaised t (s.speakers.map (s.endedNotice .flushed) ++ s.waiting.map (fun e => .dequeued e.seat .flushed) ++
          s.holderEnded .flushed ++ s.holderResumed) ∧
        t.replies = s.replies ++ [{ tag := tag, body := .contextsDropped later.length }]) ∧
      (s.settings.agendaEmpty = .close → t.agenda = [] ∧ t.floor = .closed ∧
        s.HasRaised t (s.holderEnded .flushed ++ s.speakers.map (s.endedNotice .flushed) ++
          s.waiting.map (fun e => .dequeued e.seat .flushed) ++ [.floorClosed a.item .flushed]) ∧
        t.replies = s.replies ++ [{ tag := tag, body := .contextsDropped (later.length + 1) }]) ∧
      t = { s with agenda := t.agenda, floor := t.floor, waiting := [], speakers := [], channels := t.channels,
                   seats := t.seats, notices := t.notices, overrun := t.overrun, lostCount := t.lostCount, buffer := rest,
                   replies := t.replies, owed := { s.owed with lockouts := t.owed.lockouts, timers := t.owed.timers } })

/-! ## The message unit -/

/-- R71, R161, R166, R167: what a raised notice does: nothing when its group is masked, appended while the queue holds fewer than 32,
discarded and counted otherwise; and what a sent notice's departure does, NOTICES_LOST taking its place after a loss. The group of each
notice kind, and the message it is sent as: its kind, tag 00h, the length of its body, its fields in order, numbers of two bytes most
significant first; and the codes of the reasons, the channels, the modes and the priority ends. -/
def Obligations.RaisedNoticeIsQueuedOrCounted : Prop :=
  (∀ (n p d i : Nat) (c : Chan) (r : Reason) (e : PriorityEnd) (m : Mode) (yes : Bool), ∀ row ∈
    [(Notice.granted n c yes, some 0, 0x40, [n, c.code, yes.toNat]),
     (.ended n c r d, some 0, 0x41, [n, c.code, r.code, d / 256, d % 256]),
     (.heldBy n, some 0, 0x42, [n]),
     (.resumed n e, some 0, 0x43, [n, e.code]),
     (.queued n p, some 1, 0x44, [n, p]),
     (.dequeued n r, some 1, 0x45, [n, r.code]),
     (.denied n r, some 2, 0x46, [n, r.code]),
     (.warning n c d, some 3, 0x47, [n, c.code, d / 256, d % 256]),
     (.timeOver n c, some 3, 0x48, [n, c.code]),
     (.seatFound n, some 4, 0x49, [n]),
     (.seatLost n, some 4, 0x4A, [n]),
     (.discrepancy n .reportedOpen, some 5, 0x4B, [n, 0, 1]),
     (.discrepancy n .reportedClosed, some 5, 0x4B, [n, 1, 0]),
     (.trunkUp i, none, 0x4C, [i / 256, i % 256]),
     (.trunkDown i, none, 0x4D, [i / 256, i % 256]),
     (.itemChanged i m, none, 0x4E, [i / 256, i % 256, m.code]),
     (.floorClosed i r, none, 0x4F, [i / 256, i % 256, r.code]),
     (.noticesLost i, none, 0x50, [i / 256, i % 256])],
    row.1.group = row.2.1 ∧ row.1.bytes = (row.2.2.1 :: 0 :: row.2.2.2.length :: row.2.2.2).map (BitVec.ofNat 8)) ∧
  [Reason.unknownKind, .badLength, .badValue, .overrun, .agendaFull, .nothingStaged, .floorClosed, .floorHeld, .trunkDown,
    .noChannel, .notEligible, .notFound, .listFull, .noRoom, .noTimer, .notAdmitted, .flagged, .withdrawn, .expired, .revoked,
    .displaced, .cancelled, .itemChange, .closed, .flushed, .seatLost, .disabled, .unitFault, .escalated, .priorityClear,
    .truncated, .removed].map Reason.code = List.range' 1 32 ∧
  [Chan.c1, .c2, .c3, .c4, .c5, .c6, .c7, .c8, .p].map Chan.code = List.range' 1 9 ∧
  [Mode.direct, .queued, .moderated, .override].map Mode.code = [0, 1, 2, 3] ∧
  [PriorityEnd.resume, .clear].map PriorityEnd.code = [0, 1] ∧
  ∀ (s : State) (x : Notice) (g : Nat),
    (x.group = some g → s.settings.noticeMask.getLsbD g = false → s.raise x = s) ∧
    ((x.group = none ∨ (x.group = some g ∧ s.settings.noticeMask.getLsbD g = true)) →
      (s.notices.length < 32 → s.raise x = { s with notices := s.notices ++ [x] }) ∧
      (32 ≤ s.notices.length → s.raise x = { s with overrun := true, lostCount := min (s.lostCount + 1) 65535 })) ∧
    (s.sending = some { source := .notice, rest := [] } →
      (s.overrun = false → exec .messageSent s = .next { s with sending := none, notices := s.notices.tail }) ∧
      (s.overrun = true → exec .messageSent s = .next { s with
        sending := none, notices := s.notices.tail ++ [.noticesLost s.lostCount], overrun := false, lostCount := 0 }))

/-- R161, R165, R169, R170: at a boundary while LOCKED the oldest reply begins to be sent, or else the oldest notice, from its first
byte; else, and while UNLOCKED or with a message on its way, nothing begins. The message whose last byte has been sent leaves the reply
queue, or, cut off by a RESTART, leaves no queue; one with bytes to send stays. (The frame period that sends a last byte takes this step
at once, as `FramePeriodServesHead` states, log entry 36.) The message each reply is sent as: its kind, the tag
it answers, the length of its body, its fields in order; the seat records of READ_SEATS bit by bit, the layout of READ_FLOOR, and the
codes of their enumerations. -/
def Obligations.MessagesAreSentAndLeave : Prop :=
  (∀ (tag : Byte) (n p x : Nat) (c : Chan) (r : Reason) (yes : Bool), ∀ row ∈
    [(ReplyBody.refused r, 0x81, [r.code]), (.done, 0x80, []), (.seatsLoaded n p, 0x80, [n, p]), (.position p, 0x80, [p]),
     (.entriesLeft x, 0x80, [x]), (.contextsDropped x, 0x80, [x]), (.granted c yes, 0x80, [c.code, yes.toNat]),
     (.revoked r, 0x80, [r.code]), (.grantsMade x, 0x80, [x]), (.cancelled x p, 0x80, [x, p]),
     (.extended c x, 0x80, [c.code, x / 256, x % 256]), (.flagsCleared x, 0x80, [x])],
    Reply.bytes { tag := tag, body := row.1 } =
      BitVec.ofNat 8 row.2.1 :: tag :: (row.2.2.length :: row.2.2).map (BitVec.ofNat 8)) ∧
  (∀ (tag : Byte) (first count : Nat) (records : List SeatRecord),
    Reply.bytes { tag := tag, body := .seatsRead first count records } =
      [0x80, tag, BitVec.ofNat 8 (2 + 5 * records.length), BitVec.ofNat 8 first, BitVec.ofNat 8 count] ++
        records.flatMap SeatRecord.bytes) ∧
  (∀ r : SeatRecord, ∃ b0 b3 : Byte, r.bytes = [b0, BitVec.ofNat 8 (r.config.level / 256), BitVec.ofNat 8 (r.config.level % 256), b3,
      BitVec.ofNat 8 r.mismatch] ∧
    b0.getLsbD 0 = r.config.enabled ∧ b0.getLsbD 1 = (r.config.keyAction == .hold) ∧ b0.getLsbD 2 = r.present ∧
    b0.getLsbD 3 = r.flagged ∧ b0.getLsbD 4 = r.pending ∧ (b0.extractLsb' 5 2).toNat = r.config.cls.code ∧
    b0.getLsbD 7 = false ∧ (b3.extractLsb' 0 2).toNat = r.place.code ∧ b3.extractLsb' 2 2 = 0 ∧
    (b3.extractLsb' 4 4).toNat = (match r.bound with | none => 0 | some c => c.code)) ∧
  (∀ (tag : Byte) (f : FloorReport), Reply.bytes { tag := tag, body := .floorRead f } =
    0x80 :: tag :: BitVec.ofNat 8 (42 + 3 * f.waiting.length) ::
      ([f.floor.code, f.item / 256, f.item % 256, f.count, f.trunk.code] ++
        (allChans.flatMap fun c => [(f.channels.get c).state.code, (f.channels.get c).seat.getD 0,
          (f.channels.get c).remaining.getD 65535 / 256, (f.channels.get c).remaining.getD 65535 % 256]) ++
        [f.waiting.length] ++ f.waiting.flatMap fun e => [e.seat, e.sweep / 256, e.sweep % 256]).map (BitVec.ofNat 8)) ∧
  ([SeatClass.delegate, .chair, .guest, .observer].map SeatClass.code = [0, 1, 2, 3] ∧
    [Place.idle, .waiting, .live].map Place.code = [0, 1, 2] ∧ [Floor.closed, .opened, .held].map Floor.code = [0, 1, 2] ∧
    [TrunkState.down, .up].map TrunkState.code = [0, 1] ∧
    [ChanState.free, .live, .releasing].map ChanState.code = [0, 1, 2]) ∧
  (∀ s : State, s.link = .locked → s.sending = none →
     (∀ r l, s.replies = r :: l → exec .messageStart s = .next { s with sending := some { source := .reply, rest := r.bytes } }) ∧
     (∀ x l, s.replies = [] → s.notices = x :: l →
       exec .messageStart s = .next { s with sending := some { source := .notice, rest := x.bytes } }) ∧
     (s.replies = [] → s.notices = [] → exec .messageStart s = .next s)) ∧
  (∀ s : State, s.link = .unlocked ∨ s.sending ≠ none → exec .messageStart s = .next s) ∧
  (∀ s : State,
     (s.sending = some { source := .reply, rest := [] } →
       exec .messageSent s = .next { s with sending := none, replies := s.replies.tail }) ∧
     (s.sending = some { source := .apart, rest := [] } → exec .messageSent s = .next { s with sending := none }) ∧
     ((∀ m, s.sending = some m → m.rest ≠ []) → exec .messageSent s = .next s))

/-- R161, R163, R170: a header's message is kept whole when 3 + length bytes are free, kept as a skip entry when at least 3 are, and
dropped otherwise, or when a RESTART has cut it off; a length above 250 counts as 250; without a body the message is complete at
once; until the header's third byte has come there is nothing to judge. That a skip entry with a body is not complete until that has been
counted off is the model's reading (log entry 15). -/
def Obligations.MessageHeaderMeetsBuffer : Prop :=
  (∀ s : State, (∀ k g l d, s.rx ≠ .header [k, g, l] d) → exec .messageHeader s = .next s) ∧
  ∀ (s : State) (k g l : Byte) (d : Bool) (n : Nat), s.rx = .header [k, g, l] d → n = min l.toNat 250 →
    ∃ rx : BodyUse → RxPos, (n = 0 → ∀ u, rx u = RxPos.between) ∧ (0 < n → ∀ u, rx u = RxPos.body n u) ∧
      (d = false → s.bytesHeld + 3 + n ≤ 1024 → exec .messageHeader s = .next { s with
        rx := rx .whole
        buffer := s.buffer ++ [{ kind := k, tag := g, len := l, skip := false, body := [], complete := n == 0,
                                 decoded := none }] }) ∧
      (d = false → 1024 < s.bytesHeld + 3 + n → s.bytesHeld + 3 ≤ 1024 → exec .messageHeader s = .next { s with
        rx := rx .skip
        buffer := s.buffer ++ [{ kind := k, tag := g, len := l, skip := true, body := [], complete := n == 0,
                                 decoded := none }] }) ∧
      (d = true ∨ 1024 < s.bytesHeld + 3 → exec .messageHeader s = .next { s with rx := rx .drop })

/-- R162: the oldest complete directive that is not decoded yet is decoded, and nothing else changes; the order of the decoding
checks is the kind, then the length, then the fields. -/
def Obligations.DirectivesAreDecoded : Prop :=
  (∀ (s : State) (before after : List Entry) (e : Entry), s.buffer = before ++ e :: after →
     (∀ b ∈ before, b.complete = false ∨ b.skip = true ∨ b.decoded.isSome = true) → e.complete = true → e.skip = false →
     e.decoded = none →
     exec .directiveComplete s = .next { s with
       buffer := before ++ { e with decoded := some (decodeMessage e.kind e.len e.body) } :: after }) ∧
  (∀ (kind len : Byte) (body : List Byte),
     ((kind.toNat = 0 ∨ 16 < kind.toNat) → decodeMessage kind len body = .refused .unknownKind) ∧
     (∀ n, (kind.toNat, n) ∈ [(2, 2), (3, 10), (4, 19), (5, 0), (6, 0), (7, 1), (8, 1), (9, 2), (10, 1), (11, 0), (12, 0),
         (13, 3), (14, 1), (15, 0), (16, 0)] → len.toNat ≠ n → decodeMessage kind len body = .refused .badLength) ∧
     (kind.toNat = 1 → (body.length < 2 ∨ 250 < len.toNat ∨ len.toNat ≠ 2 + 5 * (body.getD 1 0).toNat) →
       decodeMessage kind len body = .refused .badLength) ∧
     (∀ d, (kind.toNat, d) ∈ [(5, Directive.advanceItem), (6, .flushAgenda), (11, .next), (12, .cancelAll), (15, .readFloor),
         (16, .restart)] → len = 0 → decodeMessage kind len body = .accepted d))

/-- R20, R26, R53, R54, R79, R95, R119, R159, R161, R162, R168: the field checks and the clamps of every directive that has fields. A
field outside its values is refused BAD_VALUE; a level, count, limit, lead, depth, start or time above its range is clamped. -/
def Obligations.DirectiveFieldsAreChecked : Prop :=
  (∀ (len first count : Byte) (l : List SeatEntryBytes) (d : Decoded), l.length = count.toNat → 2 + 5 * count.toNat ≤ 250 →
    len.toNat = 2 + 5 * count.toNat → d = decodeMessage 1 len (first :: count :: l.flatMap SeatEntryBytes.bytes) →
    (count.toNat = 0 ∨ 48 < count.toNat ∨ first.toNat = 0 ∨ 201 < first.toNat + count.toNat ∨
        (∃ e ∈ l, 1 < e.enabled.toNat ∨ 3 < e.cls.toNat ∨ 1 < e.keyAction.toNat) → d = .refused .badValue) ∧
    (1 ≤ count.toNat → count.toNat ≤ 48 → 1 ≤ first.toNat → first.toNat + count.toNat ≤ 201 →
      (∀ e ∈ l, e.enabled.toNat ≤ 1 ∧ e.cls.toNat ≤ 3 ∧ e.keyAction.toNat ≤ 1) → ∃ entries : List SeatConfig,
        d = .accepted (.loadSeats first.toNat entries) ∧ entries.length = l.length ∧
        ∀ (i : Nat) (e : SeatEntryBytes) (x : SeatConfig), l[i]? = some e → entries[i]? = some x →
          x.enabled = (e.enabled == 1) ∧ [SeatClass.delegate, .chair, .guest, .observer][e.cls.toNat]? = some x.cls ∧
          [KeyAction.push, .hold][e.keyAction.toNat]? = some x.keyAction ∧
          x.level = min (e.level1.toNat * 256 + e.level2.toNat) 32768)) ∧
  (∀ first count : Byte,
    (1 ≤ count.toNat ∧ count.toNat ≤ 48 ∧ 1 ≤ first.toNat ∧ first.toNat + count.toNat ≤ 201 →
      decodeMessage 2 2 [first, count] = .accepted (.readSeats first.toNat count.toNat)) ∧
    (¬(1 ≤ count.toNat ∧ count.toNat ≤ 48 ∧ 1 ≤ first.toNat ∧ first.toNat + count.toNat ≤ 201) →
      decodeMessage 2 2 [first, count] = .refused .badValue)) ∧
  (∀ (k p a r1 r2 l e ld st m : Byte) (ramp : Nat), ramp = r1.toNat * 256 + r2.toNat →
    (k.toNat ∉ [1, 2, 4, 8] ∨ ramp ∉ [32, 64, 128, 256, 512] ∨ 1 < e.toNat ∨ 1 < ld.toNat ∨ 64 ≤ m.toNat →
      decodeMessage 3 10 [k, p, a, r1, r2, l, e, ld, st, m] = .refused .badValue) ∧
    (k.toNat ∈ [1, 2, 4, 8] → ramp ∈ [32, 64, 128, 256, 512] → e.toNat ≤ 1 → ld.toNat ≤ 1 → m.toNat < 64 →
      decodeMessage 3 10 [k, p, a, r1, r2, l, e, ld, st, m] = .accepted (.setGeneral {
        settings := { filterDepth := k.toNat, presenceTimeout := max 2 (min p.toNat 250),
                      auditTolerance := max 1 (min a.toNat 15), rampLength := ramp, lockout := min l.toNat 250,
                      agendaEmpty := if e = 1 then .close else .keep, noticeMask := m }
        rotation := if ld = 1 then some (max 1 (min st.toNat 200)) else none }))) ∧
  (∀ (i1 i2 mode live list adm cf l1 l2 ct w1 w2 ex bt d1 d2 pe su ca : Byte), ∃ d,
    d = decodeMessage 4 19 [i1, i2, mode, live, list, adm, cf, l1, l2, ct, w1, w2, ex, bt, d1, d2, pe, su, ca] ∧
    (3 < mode.toNat ∨ live = 0 ∨ 16 ≤ adm.toNat ∨ 1 < cf.toNat ∨ 1 < ct.toNat ∨ 1 < ex.toNat ∨ bt = 0 ∨ 1 < pe.toNat ∨
        1 < su.toNat ∨ 1 < ca.toNat → d = .refused .badValue) ∧
    (mode.toNat ≤ 3 → live ≠ 0 → adm.toNat < 16 → cf.toNat ≤ 1 → ct.toNat ≤ 1 → ex.toNat ≤ 1 → bt ≠ 0 → pe.toNat ≤ 1 →
        su.toNat ≤ 1 → ca.toNat ≤ 1 → ∃ c, d = .accepted (.stageItem c) ∧
      c.item = i1.toNat * 256 + i2.toNat ∧ [Mode.direct, .queued, .moderated, .override][mode.toNat]? = some c.mode ∧
      c.maxLive = min live.toNat 8 ∧ c.listLimit = min list.toNat 64 ∧
      c.admitted = { delegate := adm.getLsbD 0, chair := adm.getLsbD 1, guest := adm.getLsbD 2, observer := adm.getLsbD 3 } ∧
      c.chairFirst = (cf == 1) ∧ c.limit = min (l1.toNat * 256 + l2.toNat) 3600 ∧ c.chairTimed = (ct == 1) ∧
      c.warningLead = min (w1.toNat * 256 + w2.toNat) 600 ∧ c.expiry = (if ex = 1 then .warnOnly else .revoke) ∧
      c.batch = min bt.toNat 8 ∧ c.duckDepth = min (d1.toNat * 256 + d2.toNat) 32768 ∧
      c.priorityEnd = (if pe = 1 then .clear else .resume) ∧ c.suspendWhileHeld = (su == 1) ∧ c.carryFloor = (ca == 1))) ∧
  (∀ n x y : Byte,
    (1 ≤ n.toNat ∧ n.toNat ≤ 200 →
      decodeMessage 7 1 [n] = .accepted (.grant n.toNat) ∧ decodeMessage 8 1 [n] = .accepted (.revoke n.toNat) ∧
      decodeMessage 10 1 [n] = .accepted (.remove n.toNat) ∧
      decodeMessage 9 2 [n, x] = .accepted (.enqueue n.toNat x.toNat) ∧
      decodeMessage 13 3 [n, x, y] = .accepted (.extend n.toNat (min (x.toNat * 256 + y.toNat) 3600))) ∧
    (n.toNat = 0 ∨ 200 < n.toNat →
      decodeMessage 7 1 [n] = .refused .badValue ∧ decodeMessage 8 1 [n] = .refused .badValue ∧
      decodeMessage 10 1 [n] = .refused .badValue ∧ decodeMessage 9 2 [n, x] = .refused .badValue ∧
      decodeMessage 13 3 [n, x, y] = .refused .badValue) ∧
    decodeMessage 14 1 [n] = .accepted (.clearFlag n.toNat))

/-- R161, R162, R164: an oldest entry that is a skip entry, or whose kind is outside the table, is answered REFUSED and leaves
the buffer, and so is every directive that decoding refused, with its reason and no other effect; while the reply queue holds 4
replies nothing is dispatched. -/
def Obligations.UnownedEntriesAreRefused : Prop :=
  (∀ (s : State) (e : Entry) (rest : List Entry), s.buffer = e :: rest → e.complete = true → s.replies.length < 4 →
     (e.skip = true → exec .skipEntryDispatch s =
       .next { s with buffer := rest, replies := s.replies ++ [{ tag := e.tag, body := .refused .overrun }] }) ∧
     (e.skip = false → (e.kind.toNat = 0 ∨ 16 < e.kind.toNat) → exec .unknownKind s =
       .next { s with buffer := rest, replies := s.replies ++ [{ tag := e.tag, body := .refused .unknownKind }] })) ∧
  (∀ (s : State) (kind : Nat) (cmd : Instr), dispatchOf kind = some cmd → 4 ≤ s.replies.length →
     exec cmd s = .next s ∧ exec .skipEntryDispatch s = .next s ∧ exec .unknownKind s = .next s) ∧
  (∀ (s : State) (kind : Nat) (cmd : Instr) (tag : Byte) (r : Reason) (rest : List Entry), dispatchOf kind = some cmd →
    s.DispatchingRefused kind tag r rest →
    exec cmd s = .next { s with buffer := rest, replies := s.replies ++ [{ tag := tag, body := .refused r }] })

/-- R79, R168: SET_GENERAL loads every setting at once and the rotation pointer when it says so; fill follows and ACCEPTED is
queued. -/
def Obligations.SetGeneralLoadsSettings : Prop :=
  ∀ (s : State) (tag : Byte) (m : Settings) (rot : Option Nat) (rest : List Entry),
    s.Dispatching tag (.setGeneral { settings := m, rotation := rot }) rest →
    exec .setGeneral s = .next
      (({ s.withBuffer rest with settings := m, rotation := rot.getD s.rotation }).fill.reply tag .done)

/-- R4, R8, R16, R170: RESTART puts every block but the head interface into its reset state, the next frame period beginning a new sweep
interval with sweep number 0 and blink phase ON, empties the queues and the buffer, queues ACCEPTED alone, holds a message being sent
apart, and lets an arriving message be counted off without an entry. What the chain still carries of the discarded sweep is to be
disregarded: what is left of a record under way is passed over, up to the byte where the next record follows it, and one that no candidate
stands for is remembered by its number and the bytes sent. How the scan does that, that a candidate under way or over which can be no
earlier remembered record is taken for the awaited sweep's own, whatever its number, that the ports hold what they last sent, and that an
owed unlock stays due are the model's choices (log entries 11, 30 and 32), as is that the queue of commands stands (log entry 22). -/
def Obligations.RestartResetsAllButHead : Prop :=
  ∀ (s : State) (tag : Byte) (rest : List Entry), s.Dispatching tag .restart rest → ∃ t u,
    exec .restart s = .next t ∧ exec .pinReset s = .next u ∧
    t.replies = [{ tag := tag, body := .done }] ∧ t.sending.map Sending.rest = s.sending.map Sending.rest ∧
    (∀ m, t.sending = some m → m.source = .apart) ∧
    (s.rx = .between → t.rx = .between) ∧ (∀ l b, s.rx = .body l b → t.rx = .body l .drop) ∧
    (∀ got d, s.rx = .header got d → t.rx = .header got true) ∧
    (∃ cut, (s.awaiting = none ∨ 804 ≤ s.stream.length → cut = []) ∧
      (∀ k, s.awaiting = some k → s.stream.length < 804 → cut = [{ number := k, bytes := 804 - s.stream.length }]) ∧
      (s.scan = .seeking → t.scan = .seeking ∧ t.discarded = s.discarded ++ cut) ∧
      (∀ left, s.scan = .passing left → t.scan = .passing left ∧ t.discarded = s.discarded ++ cut) ∧
      (∀ got early d later, s.scan = .taking got → s.discarded = early ++ d :: later → d.MayBe got →
        (∀ x ∈ early, ¬x.MayBe got) →
        t.scan = (if d.bytes ≤ got.length then .seeking else .passing (d.bytes - got.length)) ∧ t.discarded = later ++ cut)) ∧
    (∀ got, s.scan = .taking got → (∀ d ∈ s.discarded, ¬d.MayBe got) → t.discarded = s.discarded ∧
      t.scan = (if 804 ≤ got.length + s.stream.length then .seeking else .passing (804 - got.length - s.stream.length))) ∧
    (∀ left, s.scan = .finished left → t.discarded = s.discarded ∧
      t.scan = (if left ≤ s.stream.length then .seeking else .passing (left - s.stream.length))) ∧
    (t.frame = 96 ∧ t.stream = [] ∧ t.awaiting = none ∧ ∀ r h, ∃ v, exec (.framePeriod r h) t = .next v ∧ v.frame = 1 ∧
      v.lastEmitted = 0 ∧ v.sweepNumber = 1 ∧ (v.trunkOut.drop 33).take 4 = [0xB4#8, 1, 0, 0]) ∧
    t = { u with link := s.link, lockCount := s.lockCount, program := s.program, scan := t.scan, discarded := t.discarded,
                 rx := t.rx, sending := t.sending, replies := t.replies, trunkOut := s.trunkOut, headOut := s.headOut,
                 owed := { u.owed with unlock := s.owed.unlock } }

/-! ## Laws every step keeps -/

/-- R4, R5, R11, R13, R18, R27, R33, R36, R39, R46, R53, R54, R56, R72 to R74, R77, R79, R80, R102, R111, R123, R137, R151, R163, R164,
R166, R168: every law of the whole part holds in the state after pin reset: the bounds of the queues and of the input buffer, the ranges,
the silence of FREE channels, and the agreement and the fitness of the floor. -/
def Obligations.LawsHoldAtReset : Prop :=
  State.reset.QueuesInBounds ∧ State.reset.InputSound ∧ State.reset.InRange ∧ State.reset.FreeIsSilent ∧
    State.reset.FloorAgrees ∧ State.reset.FloorFits

/-- R164 to R166: every step keeps the bounds of the reply and notice queues and the agreement of the overrun mark with the lost
count, and leaves no message in its queue whose last byte has been sent (that the frame period takes MESSAGE_SENT itself is the model's
reading, log entry 36). -/
def Obligations.StepKeepsQueuesInBounds : Prop :=
  ∀ s t : State, s.QueuesInBounds → step s = .next t → t.QueuesInBounds

/-- R162, R163: every step keeps the input buffer within its 1,024 bytes and its decoded entries true to their bytes. -/
def Obligations.StepKeepsInputSound : Prop := ∀ s t : State, s.InputSound → step s = .next t → t.InputSound

/-- R4, R5, R11, R13, R18, R27, R36, R39, R40, R53, R54, R74, R79, R102, R111, R137, R151, R158, R168: every step keeps the run count, the
lock count, the sweep numbers, the waiting entries' among them, the blink count, the rotation pointer and the cursor, the settings, the
stored contexts, every seat's level, silence count, agree counts, lockout and mismatch count, every channel's remaining time and held
count, and every gain and target in its range; and an absent seat with silence and mismatch count 0, its keys released with agree counts
0, and not pending. -/
def Obligations.StepKeepsRanges : Prop :=
  ∀ s t : State, s.InputSound → s.InRange → step s = .next t → t.InRange

/-- R137, R144: every step keeps the gain of every FREE channel at 0. -/
def Obligations.StepKeepsFreeChannelsSilent : Prop :=
  ∀ s t : State, s.FreeIsSilent → step s = .next t → t.FreeIsSilent

/-- R56, R72, R73, R77, R102, R123: every step keeps the floor, the seats, the channels and the lists in agreement. -/
def Obligations.StepKeepsFloorAgreement : Prop :=
  ∀ s t : State, s.FloorAgrees → step s = .next t → t.FloorAgrees

/-- R33, R46, R50, R74, R77, R80, R123, R126, R159: every step keeps every seat on the floor fit for its place, the lists within the
active context's limits, no seat present while the trunk is DOWN, and only enabled, present, unflagged CHAIRs armed. That LOAD_SEATS
and a report clear the armed mark at once is the model's reading (log entry 29). -/
def Obligations.StepKeepsFloorFit : Prop :=
  ∀ s t : State, s.InputSound → s.FloorAgrees → s.FloorFits → step s = .next t → t.FloorFits

/-! ## Who changes what -/

/-- R18, R19, R137, R157, R168: only a frame period and the resets move a gain; only SET_GENERAL and the resets change a setting;
only LOAD_SEATS and the resets change a seat table entry; only CLEAR_FLAG and the resets clear a flag. -/
def Obligations.OnlyOwnersChangeTheirState : Prop :=
  ∀ (c : Instr) (s t : State), exec c s = .next t → c ≠ .pinReset → c ≠ .restart →
    ((∀ r h, c ≠ .framePeriod r h) → t.gains = s.gains) ∧
    (c ≠ .setGeneral → t.settings = s.settings) ∧
    (c ≠ .loadSeats → ∀ n, (t.seat n).config = (s.seat n).config) ∧
    (c ≠ .clearFlag → ∀ n, (s.seat n).flagged = true → (t.seat n).flagged = true)

end
end

