-- ==== Sys2Proof/Laws/State.lean ====
section
/-! SUPPORT. What each named update leaves of each field of the state: one lemma per field per update, so that no later proof
unfolds a record update. -/

namespace Sys2Proof.Machine

/-! ## The record of a channel replaced -/

@[simp] theorem State.setChan_trunk (s : State) (c : Chan) (r : Channel) : (s.setChan c r).trunk = s.trunk := rfl
@[simp] theorem State.setChan_lostRun (s : State) (c : Chan) (r : Channel) : (s.setChan c r).lostRun = s.lostRun := rfl
@[simp] theorem State.setChan_awaiting (s : State) (c : Chan) (r : Channel) : (s.setChan c r).awaiting = s.awaiting := rfl
@[simp] theorem State.setChan_scan (s : State) (c : Chan) (r : Channel) : (s.setChan c r).scan = s.scan := rfl
@[simp] theorem State.setChan_discarded (s : State) (c : Chan) (r : Channel) : (s.setChan c r).discarded = s.discarded := rfl
@[simp] theorem State.setChan_frame (s : State) (c : Chan) (r : Channel) : (s.setChan c r).frame = s.frame := rfl
@[simp] theorem State.setChan_stream (s : State) (c : Chan) (r : Channel) : (s.setChan c r).stream = s.stream := rfl
@[simp] theorem State.setChan_sweepNumber (s : State) (c : Chan) (r : Channel) : (s.setChan c r).sweepNumber = s.sweepNumber := rfl
@[simp] theorem State.setChan_lastEmitted (s : State) (c : Chan) (r : Channel) : (s.setChan c r).lastEmitted = s.lastEmitted := rfl
@[simp] theorem State.setChan_blinkCount (s : State) (c : Chan) (r : Channel) : (s.setChan c r).blinkCount = s.blinkCount := rfl
@[simp] theorem State.setChan_blinkOn (s : State) (c : Chan) (r : Channel) : (s.setChan c r).blinkOn = s.blinkOn := rfl
@[simp] theorem State.setChan_link (s : State) (c : Chan) (r : Channel) : (s.setChan c r).link = s.link := rfl
@[simp] theorem State.setChan_lockCount (s : State) (c : Chan) (r : Channel) : (s.setChan c r).lockCount = s.lockCount := rfl
@[simp] theorem State.setChan_program (s : State) (c : Chan) (r : Channel) : (s.setChan c r).program = s.program := rfl
@[simp] theorem State.setChan_seats (s : State) (c : Chan) (r : Channel) : (s.setChan c r).seats = s.seats := rfl
@[simp] theorem State.setChan_agenda (s : State) (c : Chan) (r : Channel) : (s.setChan c r).agenda = s.agenda := rfl
@[simp] theorem State.setChan_floor (s : State) (c : Chan) (r : Channel) : (s.setChan c r).floor = s.floor := rfl
@[simp] theorem State.setChan_waiting (s : State) (c : Chan) (r : Channel) : (s.setChan c r).waiting = s.waiting := rfl
@[simp] theorem State.setChan_speakers (s : State) (c : Chan) (r : Channel) : (s.setChan c r).speakers = s.speakers := rfl
@[simp] theorem State.setChan_rotation (s : State) (c : Chan) (r : Channel) : (s.setChan c r).rotation = s.rotation := rfl
@[simp] theorem State.setChan_channels (s : State) (c : Chan) (r : Channel) : (s.setChan c r).channels = s.channels.set c r := rfl
@[simp] theorem State.setChan_gains (s : State) (c : Chan) (r : Channel) : (s.setChan c r).gains = s.gains := rfl
@[simp] theorem State.setChan_cursor (s : State) (c : Chan) (r : Channel) : (s.setChan c r).cursor = s.cursor := rfl
@[simp] theorem State.setChan_rx (s : State) (c : Chan) (r : Channel) : (s.setChan c r).rx = s.rx := rfl
@[simp] theorem State.setChan_buffer (s : State) (c : Chan) (r : Channel) : (s.setChan c r).buffer = s.buffer := rfl
@[simp] theorem State.setChan_replies (s : State) (c : Chan) (r : Channel) : (s.setChan c r).replies = s.replies := rfl
@[simp] theorem State.setChan_notices (s : State) (c : Chan) (r : Channel) : (s.setChan c r).notices = s.notices := rfl
@[simp] theorem State.setChan_overrun (s : State) (c : Chan) (r : Channel) : (s.setChan c r).overrun = s.overrun := rfl
@[simp] theorem State.setChan_lostCount (s : State) (c : Chan) (r : Channel) : (s.setChan c r).lostCount = s.lostCount := rfl
@[simp] theorem State.setChan_sending (s : State) (c : Chan) (r : Channel) : (s.setChan c r).sending = s.sending := rfl
@[simp] theorem State.setChan_settings (s : State) (c : Chan) (r : Channel) : (s.setChan c r).settings = s.settings := rfl
@[simp] theorem State.setChan_trunkOut (s : State) (c : Chan) (r : Channel) : (s.setChan c r).trunkOut = s.trunkOut := rfl
@[simp] theorem State.setChan_headOut (s : State) (c : Chan) (r : Channel) : (s.setChan c r).headOut = s.headOut := rfl
@[simp] theorem State.setChan_owed (s : State) (c : Chan) (r : Channel) : (s.setChan c r).owed = s.owed := rfl
@[simp] theorem State.setChan_pending (s : State) (c : Chan) (r : Channel) : (s.setChan c r).pending = s.pending := rfl

/-! ## The owed steps replaced -/

@[simp] theorem State.setOwed_trunk (s : State) (o : Owed) : (s.setOwed o).trunk = s.trunk := rfl
@[simp] theorem State.setOwed_lostRun (s : State) (o : Owed) : (s.setOwed o).lostRun = s.lostRun := rfl
@[simp] theorem State.setOwed_awaiting (s : State) (o : Owed) : (s.setOwed o).awaiting = s.awaiting := rfl
@[simp] theorem State.setOwed_scan (s : State) (o : Owed) : (s.setOwed o).scan = s.scan := rfl
@[simp] theorem State.setOwed_discarded (s : State) (o : Owed) : (s.setOwed o).discarded = s.discarded := rfl
@[simp] theorem State.setOwed_frame (s : State) (o : Owed) : (s.setOwed o).frame = s.frame := rfl
@[simp] theorem State.setOwed_stream (s : State) (o : Owed) : (s.setOwed o).stream = s.stream := rfl
@[simp] theorem State.setOwed_sweepNumber (s : State) (o : Owed) : (s.setOwed o).sweepNumber = s.sweepNumber := rfl
@[simp] theorem State.setOwed_lastEmitted (s : State) (o : Owed) : (s.setOwed o).lastEmitted = s.lastEmitted := rfl
@[simp] theorem State.setOwed_blinkCount (s : State) (o : Owed) : (s.setOwed o).blinkCount = s.blinkCount := rfl
@[simp] theorem State.setOwed_blinkOn (s : State) (o : Owed) : (s.setOwed o).blinkOn = s.blinkOn := rfl
@[simp] theorem State.setOwed_link (s : State) (o : Owed) : (s.setOwed o).link = s.link := rfl
@[simp] theorem State.setOwed_lockCount (s : State) (o : Owed) : (s.setOwed o).lockCount = s.lockCount := rfl
@[simp] theorem State.setOwed_program (s : State) (o : Owed) : (s.setOwed o).program = s.program := rfl
@[simp] theorem State.setOwed_seats (s : State) (o : Owed) : (s.setOwed o).seats = s.seats := rfl
@[simp] theorem State.setOwed_agenda (s : State) (o : Owed) : (s.setOwed o).agenda = s.agenda := rfl
@[simp] theorem State.setOwed_floor (s : State) (o : Owed) : (s.setOwed o).floor = s.floor := rfl
@[simp] theorem State.setOwed_waiting (s : State) (o : Owed) : (s.setOwed o).waiting = s.waiting := rfl
@[simp] theorem State.setOwed_speakers (s : State) (o : Owed) : (s.setOwed o).speakers = s.speakers := rfl
@[simp] theorem State.setOwed_rotation (s : State) (o : Owed) : (s.setOwed o).rotation = s.rotation := rfl
@[simp] theorem State.setOwed_channels (s : State) (o : Owed) : (s.setOwed o).channels = s.channels := rfl
@[simp] theorem State.setOwed_gains (s : State) (o : Owed) : (s.setOwed o).gains = s.gains := rfl
@[simp] theorem State.setOwed_cursor (s : State) (o : Owed) : (s.setOwed o).cursor = s.cursor := rfl
@[simp] theorem State.setOwed_rx (s : State) (o : Owed) : (s.setOwed o).rx = s.rx := rfl
@[simp] theorem State.setOwed_buffer (s : State) (o : Owed) : (s.setOwed o).buffer = s.buffer := rfl
@[simp] theorem State.setOwed_replies (s : State) (o : Owed) : (s.setOwed o).replies = s.replies := rfl
@[simp] theorem State.setOwed_notices (s : State) (o : Owed) : (s.setOwed o).notices = s.notices := rfl
@[simp] theorem State.setOwed_overrun (s : State) (o : Owed) : (s.setOwed o).overrun = s.overrun := rfl
@[simp] theorem State.setOwed_lostCount (s : State) (o : Owed) : (s.setOwed o).lostCount = s.lostCount := rfl
@[simp] theorem State.setOwed_sending (s : State) (o : Owed) : (s.setOwed o).sending = s.sending := rfl
@[simp] theorem State.setOwed_settings (s : State) (o : Owed) : (s.setOwed o).settings = s.settings := rfl
@[simp] theorem State.setOwed_trunkOut (s : State) (o : Owed) : (s.setOwed o).trunkOut = s.trunkOut := rfl
@[simp] theorem State.setOwed_headOut (s : State) (o : Owed) : (s.setOwed o).headOut = s.headOut := rfl
@[simp] theorem State.setOwed_owed (s : State) (o : Owed) : (s.setOwed o).owed = o := rfl
@[simp] theorem State.setOwed_pending (s : State) (o : Owed) : (s.setOwed o).pending = s.pending := rfl

/-! ## A reply queued (R164) -/

@[simp] theorem State.reply_trunk (s : State) (tag : Byte) (b : ReplyBody) : (s.reply tag b).trunk = s.trunk := rfl
@[simp] theorem State.reply_lostRun (s : State) (tag : Byte) (b : ReplyBody) : (s.reply tag b).lostRun = s.lostRun := rfl
@[simp] theorem State.reply_awaiting (s : State) (tag : Byte) (b : ReplyBody) : (s.reply tag b).awaiting = s.awaiting := rfl
@[simp] theorem State.reply_scan (s : State) (tag : Byte) (b : ReplyBody) : (s.reply tag b).scan = s.scan := rfl
@[simp] theorem State.reply_discarded (s : State) (tag : Byte) (b : ReplyBody) : (s.reply tag b).discarded = s.discarded := rfl
@[simp] theorem State.reply_frame (s : State) (tag : Byte) (b : ReplyBody) : (s.reply tag b).frame = s.frame := rfl
@[simp] theorem State.reply_stream (s : State) (tag : Byte) (b : ReplyBody) : (s.reply tag b).stream = s.stream := rfl
@[simp] theorem State.reply_sweepNumber (s : State) (tag : Byte) (b : ReplyBody) : (s.reply tag b).sweepNumber = s.sweepNumber := rfl
@[simp] theorem State.reply_lastEmitted (s : State) (tag : Byte) (b : ReplyBody) : (s.reply tag b).lastEmitted = s.lastEmitted := rfl
@[simp] theorem State.reply_blinkCount (s : State) (tag : Byte) (b : ReplyBody) : (s.reply tag b).blinkCount = s.blinkCount := rfl
@[simp] theorem State.reply_blinkOn (s : State) (tag : Byte) (b : ReplyBody) : (s.reply tag b).blinkOn = s.blinkOn := rfl
@[simp] theorem State.reply_link (s : State) (tag : Byte) (b : ReplyBody) : (s.reply tag b).link = s.link := rfl
@[simp] theorem State.reply_lockCount (s : State) (tag : Byte) (b : ReplyBody) : (s.reply tag b).lockCount = s.lockCount := rfl
@[simp] theorem State.reply_program (s : State) (tag : Byte) (b : ReplyBody) : (s.reply tag b).program = s.program := rfl
@[simp] theorem State.reply_seats (s : State) (tag : Byte) (b : ReplyBody) : (s.reply tag b).seats = s.seats := rfl
@[simp] theorem State.reply_agenda (s : State) (tag : Byte) (b : ReplyBody) : (s.reply tag b).agenda = s.agenda := rfl
@[simp] theorem State.reply_floor (s : State) (tag : Byte) (b : ReplyBody) : (s.reply tag b).floor = s.floor := rfl
@[simp] theorem State.reply_waiting (s : State) (tag : Byte) (b : ReplyBody) : (s.reply tag b).waiting = s.waiting := rfl
@[simp] theorem State.reply_speakers (s : State) (tag : Byte) (b : ReplyBody) : (s.reply tag b).speakers = s.speakers := rfl
@[simp] theorem State.reply_rotation (s : State) (tag : Byte) (b : ReplyBody) : (s.reply tag b).rotation = s.rotation := rfl
@[simp] theorem State.reply_channels (s : State) (tag : Byte) (b : ReplyBody) : (s.reply tag b).channels = s.channels := rfl
@[simp] theorem State.reply_gains (s : State) (tag : Byte) (b : ReplyBody) : (s.reply tag b).gains = s.gains := rfl
@[simp] theorem State.reply_cursor (s : State) (tag : Byte) (b : ReplyBody) : (s.reply tag b).cursor = s.cursor := rfl
@[simp] theorem State.reply_rx (s : State) (tag : Byte) (b : ReplyBody) : (s.reply tag b).rx = s.rx := rfl
@[simp] theorem State.reply_buffer (s : State) (tag : Byte) (b : ReplyBody) : (s.reply tag b).buffer = s.buffer := rfl
@[simp] theorem State.reply_replies (s : State) (tag : Byte) (b : ReplyBody) : (s.reply tag b).replies = s.replies ++ [{ tag := tag, body := b }] := rfl
@[simp] theorem State.reply_notices (s : State) (tag : Byte) (b : ReplyBody) : (s.reply tag b).notices = s.notices := rfl
@[simp] theorem State.reply_overrun (s : State) (tag : Byte) (b : ReplyBody) : (s.reply tag b).overrun = s.overrun := rfl
@[simp] theorem State.reply_lostCount (s : State) (tag : Byte) (b : ReplyBody) : (s.reply tag b).lostCount = s.lostCount := rfl
@[simp] theorem State.reply_sending (s : State) (tag : Byte) (b : ReplyBody) : (s.reply tag b).sending = s.sending := rfl
@[simp] theorem State.reply_settings (s : State) (tag : Byte) (b : ReplyBody) : (s.reply tag b).settings = s.settings := rfl
@[simp] theorem State.reply_trunkOut (s : State) (tag : Byte) (b : ReplyBody) : (s.reply tag b).trunkOut = s.trunkOut := rfl
@[simp] theorem State.reply_headOut (s : State) (tag : Byte) (b : ReplyBody) : (s.reply tag b).headOut = s.headOut := rfl
@[simp] theorem State.reply_owed (s : State) (tag : Byte) (b : ReplyBody) : (s.reply tag b).owed = s.owed := rfl
@[simp] theorem State.reply_pending (s : State) (tag : Byte) (b : ReplyBody) : (s.reply tag b).pending = s.pending := rfl

/-! ## The oldest entry gone from the input buffer -/

@[simp] theorem State.withBuffer_trunk (s : State) (rest : List Entry) : (s.withBuffer rest).trunk = s.trunk := rfl
@[simp] theorem State.withBuffer_lostRun (s : State) (rest : List Entry) : (s.withBuffer rest).lostRun = s.lostRun := rfl
@[simp] theorem State.withBuffer_awaiting (s : State) (rest : List Entry) : (s.withBuffer rest).awaiting = s.awaiting := rfl
@[simp] theorem State.withBuffer_scan (s : State) (rest : List Entry) : (s.withBuffer rest).scan = s.scan := rfl
@[simp] theorem State.withBuffer_discarded (s : State) (rest : List Entry) : (s.withBuffer rest).discarded = s.discarded := rfl
@[simp] theorem State.withBuffer_frame (s : State) (rest : List Entry) : (s.withBuffer rest).frame = s.frame := rfl
@[simp] theorem State.withBuffer_stream (s : State) (rest : List Entry) : (s.withBuffer rest).stream = s.stream := rfl
@[simp] theorem State.withBuffer_sweepNumber (s : State) (rest : List Entry) : (s.withBuffer rest).sweepNumber = s.sweepNumber := rfl
@[simp] theorem State.withBuffer_lastEmitted (s : State) (rest : List Entry) : (s.withBuffer rest).lastEmitted = s.lastEmitted := rfl
@[simp] theorem State.withBuffer_blinkCount (s : State) (rest : List Entry) : (s.withBuffer rest).blinkCount = s.blinkCount := rfl
@[simp] theorem State.withBuffer_blinkOn (s : State) (rest : List Entry) : (s.withBuffer rest).blinkOn = s.blinkOn := rfl
@[simp] theorem State.withBuffer_link (s : State) (rest : List Entry) : (s.withBuffer rest).link = s.link := rfl
@[simp] theorem State.withBuffer_lockCount (s : State) (rest : List Entry) : (s.withBuffer rest).lockCount = s.lockCount := rfl
@[simp] theorem State.withBuffer_program (s : State) (rest : List Entry) : (s.withBuffer rest).program = s.program := rfl
@[simp] theorem State.withBuffer_seats (s : State) (rest : List Entry) : (s.withBuffer rest).seats = s.seats := rfl
@[simp] theorem State.withBuffer_agenda (s : State) (rest : List Entry) : (s.withBuffer rest).agenda = s.agenda := rfl
@[simp] theorem State.withBuffer_floor (s : State) (rest : List Entry) : (s.withBuffer rest).floor = s.floor := rfl
@[simp] theorem State.withBuffer_waiting (s : State) (rest : List Entry) : (s.withBuffer rest).waiting = s.waiting := rfl
@[simp] theorem State.withBuffer_speakers (s : State) (rest : List Entry) : (s.withBuffer rest).speakers = s.speakers := rfl
@[simp] theorem State.withBuffer_rotation (s : State) (rest : List Entry) : (s.withBuffer rest).rotation = s.rotation := rfl
@[simp] theorem State.withBuffer_channels (s : State) (rest : List Entry) : (s.withBuffer rest).channels = s.channels := rfl
@[simp] theorem State.withBuffer_gains (s : State) (rest : List Entry) : (s.withBuffer rest).gains = s.gains := rfl
@[simp] theorem State.withBuffer_cursor (s : State) (rest : List Entry) : (s.withBuffer rest).cursor = s.cursor := rfl
@[simp] theorem State.withBuffer_rx (s : State) (rest : List Entry) : (s.withBuffer rest).rx = s.rx := rfl
@[simp] theorem State.withBuffer_buffer (s : State) (rest : List Entry) : (s.withBuffer rest).buffer = rest := rfl
@[simp] theorem State.withBuffer_replies (s : State) (rest : List Entry) : (s.withBuffer rest).replies = s.replies := rfl
@[simp] theorem State.withBuffer_notices (s : State) (rest : List Entry) : (s.withBuffer rest).notices = s.notices := rfl
@[simp] theorem State.withBuffer_overrun (s : State) (rest : List Entry) : (s.withBuffer rest).overrun = s.overrun := rfl
@[simp] theorem State.withBuffer_lostCount (s : State) (rest : List Entry) : (s.withBuffer rest).lostCount = s.lostCount := rfl
@[simp] theorem State.withBuffer_sending (s : State) (rest : List Entry) : (s.withBuffer rest).sending = s.sending := rfl
@[simp] theorem State.withBuffer_settings (s : State) (rest : List Entry) : (s.withBuffer rest).settings = s.settings := rfl
@[simp] theorem State.withBuffer_trunkOut (s : State) (rest : List Entry) : (s.withBuffer rest).trunkOut = s.trunkOut := rfl
@[simp] theorem State.withBuffer_headOut (s : State) (rest : List Entry) : (s.withBuffer rest).headOut = s.headOut := rfl
@[simp] theorem State.withBuffer_owed (s : State) (rest : List Entry) : (s.withBuffer rest).owed = s.owed := rfl
@[simp] theorem State.withBuffer_pending (s : State) (rest : List Entry) : (s.withBuffer rest).pending = s.pending := rfl

/-! ## The waiting list without a seat (R76) -/

@[simp] theorem State.leaveSilently_trunk (s : State) (n : Nat) :
    (s.leaveSilently n).trunk = s.trunk := rfl
@[simp] theorem State.leaveSilently_lostRun (s : State) (n : Nat) :
    (s.leaveSilently n).lostRun = s.lostRun := rfl
@[simp] theorem State.leaveSilently_awaiting (s : State) (n : Nat) :
    (s.leaveSilently n).awaiting = s.awaiting := rfl
@[simp] theorem State.leaveSilently_scan (s : State) (n : Nat) :
    (s.leaveSilently n).scan = s.scan := rfl
@[simp] theorem State.leaveSilently_discarded (s : State) (n : Nat) :
    (s.leaveSilently n).discarded = s.discarded := rfl
@[simp] theorem State.leaveSilently_frame (s : State) (n : Nat) :
    (s.leaveSilently n).frame = s.frame := rfl
@[simp] theorem State.leaveSilently_stream (s : State) (n : Nat) :
    (s.leaveSilently n).stream = s.stream := rfl
@[simp] theorem State.leaveSilently_sweepNumber (s : State) (n : Nat) :
    (s.leaveSilently n).sweepNumber = s.sweepNumber := rfl
@[simp] theorem State.leaveSilently_lastEmitted (s : State) (n : Nat) :
    (s.leaveSilently n).lastEmitted = s.lastEmitted := rfl
@[simp] theorem State.leaveSilently_blinkCount (s : State) (n : Nat) :
    (s.leaveSilently n).blinkCount = s.blinkCount := rfl
@[simp] theorem State.leaveSilently_blinkOn (s : State) (n : Nat) :
    (s.leaveSilently n).blinkOn = s.blinkOn := rfl
@[simp] theorem State.leaveSilently_link (s : State) (n : Nat) :
    (s.leaveSilently n).link = s.link := rfl
@[simp] theorem State.leaveSilently_lockCount (s : State) (n : Nat) :
    (s.leaveSilently n).lockCount = s.lockCount := rfl
@[simp] theorem State.leaveSilently_program (s : State) (n : Nat) :
    (s.leaveSilently n).program = s.program := rfl
@[simp] theorem State.leaveSilently_seats (s : State) (n : Nat) :
    (s.leaveSilently n).seats = s.seats := rfl
@[simp] theorem State.leaveSilently_agenda (s : State) (n : Nat) :
    (s.leaveSilently n).agenda = s.agenda := rfl
@[simp] theorem State.leaveSilently_floor (s : State) (n : Nat) :
    (s.leaveSilently n).floor = s.floor := rfl
@[simp] theorem State.leaveSilently_waiting (s : State) (n : Nat) :
    (s.leaveSilently n).waiting = s.waiting.filter fun e => e.seat != n := rfl
@[simp] theorem State.leaveSilently_speakers (s : State) (n : Nat) :
    (s.leaveSilently n).speakers = s.speakers := rfl
@[simp] theorem State.leaveSilently_rotation (s : State) (n : Nat) :
    (s.leaveSilently n).rotation = s.rotation := rfl
@[simp] theorem State.leaveSilently_channels (s : State) (n : Nat) :
    (s.leaveSilently n).channels = s.channels := rfl
@[simp] theorem State.leaveSilently_gains (s : State) (n : Nat) :
    (s.leaveSilently n).gains = s.gains := rfl
@[simp] theorem State.leaveSilently_cursor (s : State) (n : Nat) :
    (s.leaveSilently n).cursor = s.cursor := rfl
@[simp] theorem State.leaveSilently_rx (s : State) (n : Nat) :
    (s.leaveSilently n).rx = s.rx := rfl
@[simp] theorem State.leaveSilently_buffer (s : State) (n : Nat) :
    (s.leaveSilently n).buffer = s.buffer := rfl
@[simp] theorem State.leaveSilently_replies (s : State) (n : Nat) :
    (s.leaveSilently n).replies = s.replies := rfl
@[simp] theorem State.leaveSilently_notices (s : State) (n : Nat) :
    (s.leaveSilently n).notices = s.notices := rfl
@[simp] theorem State.leaveSilently_overrun (s : State) (n : Nat) :
    (s.leaveSilently n).overrun = s.overrun := rfl
@[simp] theorem State.leaveSilently_lostCount (s : State) (n : Nat) :
    (s.leaveSilently n).lostCount = s.lostCount := rfl
@[simp] theorem State.leaveSilently_sending (s : State) (n : Nat) :
    (s.leaveSilently n).sending = s.sending := rfl
@[simp] theorem State.leaveSilently_settings (s : State) (n : Nat) :
    (s.leaveSilently n).settings = s.settings := rfl
@[simp] theorem State.leaveSilently_trunkOut (s : State) (n : Nat) :
    (s.leaveSilently n).trunkOut = s.trunkOut := rfl
@[simp] theorem State.leaveSilently_headOut (s : State) (n : Nat) :
    (s.leaveSilently n).headOut = s.headOut := rfl
@[simp] theorem State.leaveSilently_owed (s : State) (n : Nat) :
    (s.leaveSilently n).owed = s.owed := rfl
@[simp] theorem State.leaveSilently_pending (s : State) (n : Nat) :
    (s.leaveSilently n).pending = s.pending := rfl

/-! ## A seat changed: every other field stands -/

@[simp] theorem State.updSeat_trunk (s : State) (n : Nat) (g : Seat → Seat) : (s.updSeat n g).trunk = s.trunk := by
  cases n <;> rfl
@[simp] theorem State.updSeat_lostRun (s : State) (n : Nat) (g : Seat → Seat) : (s.updSeat n g).lostRun = s.lostRun := by
  cases n <;> rfl
@[simp] theorem State.updSeat_awaiting (s : State) (n : Nat) (g : Seat → Seat) : (s.updSeat n g).awaiting = s.awaiting := by
  cases n <;> rfl
@[simp] theorem State.updSeat_scan (s : State) (n : Nat) (g : Seat → Seat) : (s.updSeat n g).scan = s.scan := by
  cases n <;> rfl
@[simp] theorem State.updSeat_discarded (s : State) (n : Nat) (g : Seat → Seat) : (s.updSeat n g).discarded = s.discarded := by
  cases n <;> rfl
@[simp] theorem State.updSeat_frame (s : State) (n : Nat) (g : Seat → Seat) : (s.updSeat n g).frame = s.frame := by
  cases n <;> rfl
@[simp] theorem State.updSeat_stream (s : State) (n : Nat) (g : Seat → Seat) : (s.updSeat n g).stream = s.stream := by
  cases n <;> rfl
@[simp] theorem State.updSeat_sweepNumber (s : State) (n : Nat) (g : Seat → Seat) : (s.updSeat n g).sweepNumber = s.sweepNumber := by
  cases n <;> rfl
@[simp] theorem State.updSeat_lastEmitted (s : State) (n : Nat) (g : Seat → Seat) : (s.updSeat n g).lastEmitted = s.lastEmitted := by
  cases n <;> rfl
@[simp] theorem State.updSeat_blinkCount (s : State) (n : Nat) (g : Seat → Seat) : (s.updSeat n g).blinkCount = s.blinkCount := by
  cases n <;> rfl
@[simp] theorem State.updSeat_blinkOn (s : State) (n : Nat) (g : Seat → Seat) : (s.updSeat n g).blinkOn = s.blinkOn := by
  cases n <;> rfl
@[simp] theorem State.updSeat_link (s : State) (n : Nat) (g : Seat → Seat) : (s.updSeat n g).link = s.link := by
  cases n <;> rfl
@[simp] theorem State.updSeat_lockCount (s : State) (n : Nat) (g : Seat → Seat) : (s.updSeat n g).lockCount = s.lockCount := by
  cases n <;> rfl
@[simp] theorem State.updSeat_program (s : State) (n : Nat) (g : Seat → Seat) : (s.updSeat n g).program = s.program := by
  cases n <;> rfl
@[simp] theorem State.updSeat_agenda (s : State) (n : Nat) (g : Seat → Seat) : (s.updSeat n g).agenda = s.agenda := by
  cases n <;> rfl
@[simp] theorem State.updSeat_floor (s : State) (n : Nat) (g : Seat → Seat) : (s.updSeat n g).floor = s.floor := by
  cases n <;> rfl
@[simp] theorem State.updSeat_waiting (s : State) (n : Nat) (g : Seat → Seat) : (s.updSeat n g).waiting = s.waiting := by
  cases n <;> rfl
@[simp] theorem State.updSeat_speakers (s : State) (n : Nat) (g : Seat → Seat) : (s.updSeat n g).speakers = s.speakers := by
  cases n <;> rfl
@[simp] theorem State.updSeat_rotation (s : State) (n : Nat) (g : Seat → Seat) : (s.updSeat n g).rotation = s.rotation := by
  cases n <;> rfl
@[simp] theorem State.updSeat_channels (s : State) (n : Nat) (g : Seat → Seat) : (s.updSeat n g).channels = s.channels := by
  cases n <;> rfl
@[simp] theorem State.updSeat_gains (s : State) (n : Nat) (g : Seat → Seat) : (s.updSeat n g).gains = s.gains := by
  cases n <;> rfl
@[simp] theorem State.updSeat_cursor (s : State) (n : Nat) (g : Seat → Seat) : (s.updSeat n g).cursor = s.cursor := by
  cases n <;> rfl
@[simp] theorem State.updSeat_rx (s : State) (n : Nat) (g : Seat → Seat) : (s.updSeat n g).rx = s.rx := by
  cases n <;> rfl
@[simp] theorem State.updSeat_buffer (s : State) (n : Nat) (g : Seat → Seat) : (s.updSeat n g).buffer = s.buffer := by
  cases n <;> rfl
@[simp] theorem State.updSeat_replies (s : State) (n : Nat) (g : Seat → Seat) : (s.updSeat n g).replies = s.replies := by
  cases n <;> rfl
@[simp] theorem State.updSeat_notices (s : State) (n : Nat) (g : Seat → Seat) : (s.updSeat n g).notices = s.notices := by
  cases n <;> rfl
@[simp] theorem State.updSeat_overrun (s : State) (n : Nat) (g : Seat → Seat) : (s.updSeat n g).overrun = s.overrun := by
  cases n <;> rfl
@[simp] theorem State.updSeat_lostCount (s : State) (n : Nat) (g : Seat → Seat) : (s.updSeat n g).lostCount = s.lostCount := by
  cases n <;> rfl
@[simp] theorem State.updSeat_sending (s : State) (n : Nat) (g : Seat → Seat) : (s.updSeat n g).sending = s.sending := by
  cases n <;> rfl
@[simp] theorem State.updSeat_settings (s : State) (n : Nat) (g : Seat → Seat) : (s.updSeat n g).settings = s.settings := by
  cases n <;> rfl
@[simp] theorem State.updSeat_trunkOut (s : State) (n : Nat) (g : Seat → Seat) : (s.updSeat n g).trunkOut = s.trunkOut := by
  cases n <;> rfl
@[simp] theorem State.updSeat_headOut (s : State) (n : Nat) (g : Seat → Seat) : (s.updSeat n g).headOut = s.headOut := by
  cases n <;> rfl
@[simp] theorem State.updSeat_owed (s : State) (n : Nat) (g : Seat → Seat) : (s.updSeat n g).owed = s.owed := by
  cases n <;> rfl
@[simp] theorem State.updSeat_pending (s : State) (n : Nat) (g : Seat → Seat) : (s.updSeat n g).pending = s.pending := by
  cases n <;> rfl

/-! ## A seat's place set: every other field stands (R73) -/

@[simp] theorem State.setPlace_trunk (s : State) (n : Nat) (p : Place) (b : Option Chan) :
    (s.setPlace n p b).trunk = s.trunk := State.updSeat_trunk s n _
@[simp] theorem State.setPlace_lostRun (s : State) (n : Nat) (p : Place) (b : Option Chan) :
    (s.setPlace n p b).lostRun = s.lostRun := State.updSeat_lostRun s n _
@[simp] theorem State.setPlace_awaiting (s : State) (n : Nat) (p : Place) (b : Option Chan) :
    (s.setPlace n p b).awaiting = s.awaiting := State.updSeat_awaiting s n _
@[simp] theorem State.setPlace_scan (s : State) (n : Nat) (p : Place) (b : Option Chan) :
    (s.setPlace n p b).scan = s.scan := State.updSeat_scan s n _
@[simp] theorem State.setPlace_discarded (s : State) (n : Nat) (p : Place) (b : Option Chan) :
    (s.setPlace n p b).discarded = s.discarded := State.updSeat_discarded s n _
@[simp] theorem State.setPlace_frame (s : State) (n : Nat) (p : Place) (b : Option Chan) :
    (s.setPlace n p b).frame = s.frame := State.updSeat_frame s n _
@[simp] theorem State.setPlace_stream (s : State) (n : Nat) (p : Place) (b : Option Chan) :
    (s.setPlace n p b).stream = s.stream := State.updSeat_stream s n _
@[simp] theorem State.setPlace_sweepNumber (s : State) (n : Nat) (p : Place) (b : Option Chan) :
    (s.setPlace n p b).sweepNumber = s.sweepNumber := State.updSeat_sweepNumber s n _
@[simp] theorem State.setPlace_lastEmitted (s : State) (n : Nat) (p : Place) (b : Option Chan) :
    (s.setPlace n p b).lastEmitted = s.lastEmitted := State.updSeat_lastEmitted s n _
@[simp] theorem State.setPlace_blinkCount (s : State) (n : Nat) (p : Place) (b : Option Chan) :
    (s.setPlace n p b).blinkCount = s.blinkCount := State.updSeat_blinkCount s n _
@[simp] theorem State.setPlace_blinkOn (s : State) (n : Nat) (p : Place) (b : Option Chan) :
    (s.setPlace n p b).blinkOn = s.blinkOn := State.updSeat_blinkOn s n _
@[simp] theorem State.setPlace_link (s : State) (n : Nat) (p : Place) (b : Option Chan) :
    (s.setPlace n p b).link = s.link := State.updSeat_link s n _
@[simp] theorem State.setPlace_lockCount (s : State) (n : Nat) (p : Place) (b : Option Chan) :
    (s.setPlace n p b).lockCount = s.lockCount := State.updSeat_lockCount s n _
@[simp] theorem State.setPlace_program (s : State) (n : Nat) (p : Place) (b : Option Chan) :
    (s.setPlace n p b).program = s.program := State.updSeat_program s n _
@[simp] theorem State.setPlace_agenda (s : State) (n : Nat) (p : Place) (b : Option Chan) :
    (s.setPlace n p b).agenda = s.agenda := State.updSeat_agenda s n _
@[simp] theorem State.setPlace_floor (s : State) (n : Nat) (p : Place) (b : Option Chan) :
    (s.setPlace n p b).floor = s.floor := State.updSeat_floor s n _
@[simp] theorem State.setPlace_waiting (s : State) (n : Nat) (p : Place) (b : Option Chan) :
    (s.setPlace n p b).waiting = s.waiting := State.updSeat_waiting s n _
@[simp] theorem State.setPlace_speakers (s : State) (n : Nat) (p : Place) (b : Option Chan) :
    (s.setPlace n p b).speakers = s.speakers := State.updSeat_speakers s n _
@[simp] theorem State.setPlace_rotation (s : State) (n : Nat) (p : Place) (b : Option Chan) :
    (s.setPlace n p b).rotation = s.rotation := State.updSeat_rotation s n _
@[simp] theorem State.setPlace_channels (s : State) (n : Nat) (p : Place) (b : Option Chan) :
    (s.setPlace n p b).channels = s.channels := State.updSeat_channels s n _
@[simp] theorem State.setPlace_gains (s : State) (n : Nat) (p : Place) (b : Option Chan) :
    (s.setPlace n p b).gains = s.gains := State.updSeat_gains s n _
@[simp] theorem State.setPlace_cursor (s : State) (n : Nat) (p : Place) (b : Option Chan) :
    (s.setPlace n p b).cursor = s.cursor := State.updSeat_cursor s n _
@[simp] theorem State.setPlace_rx (s : State) (n : Nat) (p : Place) (b : Option Chan) :
    (s.setPlace n p b).rx = s.rx := State.updSeat_rx s n _
@[simp] theorem State.setPlace_buffer (s : State) (n : Nat) (p : Place) (b : Option Chan) :
    (s.setPlace n p b).buffer = s.buffer := State.updSeat_buffer s n _
@[simp] theorem State.setPlace_replies (s : State) (n : Nat) (p : Place) (b : Option Chan) :
    (s.setPlace n p b).replies = s.replies := State.updSeat_replies s n _
@[simp] theorem State.setPlace_notices (s : State) (n : Nat) (p : Place) (b : Option Chan) :
    (s.setPlace n p b).notices = s.notices := State.updSeat_notices s n _
@[simp] theorem State.setPlace_overrun (s : State) (n : Nat) (p : Place) (b : Option Chan) :
    (s.setPlace n p b).overrun = s.overrun := State.updSeat_overrun s n _
@[simp] theorem State.setPlace_lostCount (s : State) (n : Nat) (p : Place) (b : Option Chan) :
    (s.setPlace n p b).lostCount = s.lostCount := State.updSeat_lostCount s n _
@[simp] theorem State.setPlace_sending (s : State) (n : Nat) (p : Place) (b : Option Chan) :
    (s.setPlace n p b).sending = s.sending := State.updSeat_sending s n _
@[simp] theorem State.setPlace_settings (s : State) (n : Nat) (p : Place) (b : Option Chan) :
    (s.setPlace n p b).settings = s.settings := State.updSeat_settings s n _
@[simp] theorem State.setPlace_trunkOut (s : State) (n : Nat) (p : Place) (b : Option Chan) :
    (s.setPlace n p b).trunkOut = s.trunkOut := State.updSeat_trunkOut s n _
@[simp] theorem State.setPlace_headOut (s : State) (n : Nat) (p : Place) (b : Option Chan) :
    (s.setPlace n p b).headOut = s.headOut := State.updSeat_headOut s n _
@[simp] theorem State.setPlace_owed (s : State) (n : Nat) (p : Place) (b : Option Chan) :
    (s.setPlace n p b).owed = s.owed := State.updSeat_owed s n _
@[simp] theorem State.setPlace_pending (s : State) (n : Nat) (p : Place) (b : Option Chan) :
    (s.setPlace n p b).pending = s.pending := State.updSeat_pending s n _

/-! ## A notice raised: every field but those of the notice queue stands (R166) -/

@[simp] theorem State.raise_trunk (s : State) (n : Notice) : (s.raise n).trunk = s.trunk := by
  unfold State.raise; split <;> [split <;> rfl; rfl]
@[simp] theorem State.raise_lostRun (s : State) (n : Notice) : (s.raise n).lostRun = s.lostRun := by
  unfold State.raise; split <;> [split <;> rfl; rfl]
@[simp] theorem State.raise_awaiting (s : State) (n : Notice) : (s.raise n).awaiting = s.awaiting := by
  unfold State.raise; split <;> [split <;> rfl; rfl]
@[simp] theorem State.raise_scan (s : State) (n : Notice) : (s.raise n).scan = s.scan := by
  unfold State.raise; split <;> [split <;> rfl; rfl]
@[simp] theorem State.raise_discarded (s : State) (n : Notice) : (s.raise n).discarded = s.discarded := by
  unfold State.raise; split <;> [split <;> rfl; rfl]
@[simp] theorem State.raise_frame (s : State) (n : Notice) : (s.raise n).frame = s.frame := by
  unfold State.raise; split <;> [split <;> rfl; rfl]
@[simp] theorem State.raise_stream (s : State) (n : Notice) : (s.raise n).stream = s.stream := by
  unfold State.raise; split <;> [split <;> rfl; rfl]
@[simp] theorem State.raise_sweepNumber (s : State) (n : Notice) : (s.raise n).sweepNumber = s.sweepNumber := by
  unfold State.raise; split <;> [split <;> rfl; rfl]
@[simp] theorem State.raise_lastEmitted (s : State) (n : Notice) : (s.raise n).lastEmitted = s.lastEmitted := by
  unfold State.raise; split <;> [split <;> rfl; rfl]
@[simp] theorem State.raise_blinkCount (s : State) (n : Notice) : (s.raise n).blinkCount = s.blinkCount := by
  unfold State.raise; split <;> [split <;> rfl; rfl]
@[simp] theorem State.raise_blinkOn (s : State) (n : Notice) : (s.raise n).blinkOn = s.blinkOn := by
  unfold State.raise; split <;> [split <;> rfl; rfl]
@[simp] theorem State.raise_link (s : State) (n : Notice) : (s.raise n).link = s.link := by
  unfold State.raise; split <;> [split <;> rfl; rfl]
@[simp] theorem State.raise_lockCount (s : State) (n : Notice) : (s.raise n).lockCount = s.lockCount := by
  unfold State.raise; split <;> [split <;> rfl; rfl]
@[simp] theorem State.raise_program (s : State) (n : Notice) : (s.raise n).program = s.program := by
  unfold State.raise; split <;> [split <;> rfl; rfl]
@[simp] theorem State.raise_seats (s : State) (n : Notice) : (s.raise n).seats = s.seats := by
  unfold State.raise; split <;> [split <;> rfl; rfl]
@[simp] theorem State.raise_agenda (s : State) (n : Notice) : (s.raise n).agenda = s.agenda := by
  unfold State.raise; split <;> [split <;> rfl; rfl]
@[simp] theorem State.raise_floor (s : State) (n : Notice) : (s.raise n).floor = s.floor := by
  unfold State.raise; split <;> [split <;> rfl; rfl]
@[simp] theorem State.raise_waiting (s : State) (n : Notice) : (s.raise n).waiting = s.waiting := by
  unfold State.raise; split <;> [split <;> rfl; rfl]
@[simp] theorem State.raise_speakers (s : State) (n : Notice) : (s.raise n).speakers = s.speakers := by
  unfold State.raise; split <;> [split <;> rfl; rfl]
@[simp] theorem State.raise_rotation (s : State) (n : Notice) : (s.raise n).rotation = s.rotation := by
  unfold State.raise; split <;> [split <;> rfl; rfl]
@[simp] theorem State.raise_channels (s : State) (n : Notice) : (s.raise n).channels = s.channels := by
  unfold State.raise; split <;> [split <;> rfl; rfl]
@[simp] theorem State.raise_gains (s : State) (n : Notice) : (s.raise n).gains = s.gains := by
  unfold State.raise; split <;> [split <;> rfl; rfl]
@[simp] theorem State.raise_cursor (s : State) (n : Notice) : (s.raise n).cursor = s.cursor := by
  unfold State.raise; split <;> [split <;> rfl; rfl]
@[simp] theorem State.raise_rx (s : State) (n : Notice) : (s.raise n).rx = s.rx := by
  unfold State.raise; split <;> [split <;> rfl; rfl]
@[simp] theorem State.raise_buffer (s : State) (n : Notice) : (s.raise n).buffer = s.buffer := by
  unfold State.raise; split <;> [split <;> rfl; rfl]
@[simp] theorem State.raise_replies (s : State) (n : Notice) : (s.raise n).replies = s.replies := by
  unfold State.raise; split <;> [split <;> rfl; rfl]
@[simp] theorem State.raise_sending (s : State) (n : Notice) : (s.raise n).sending = s.sending := by
  unfold State.raise; split <;> [split <;> rfl; rfl]
@[simp] theorem State.raise_settings (s : State) (n : Notice) : (s.raise n).settings = s.settings := by
  unfold State.raise; split <;> [split <;> rfl; rfl]
@[simp] theorem State.raise_trunkOut (s : State) (n : Notice) : (s.raise n).trunkOut = s.trunkOut := by
  unfold State.raise; split <;> [split <;> rfl; rfl]
@[simp] theorem State.raise_headOut (s : State) (n : Notice) : (s.raise n).headOut = s.headOut := by
  unfold State.raise; split <;> [split <;> rfl; rfl]
@[simp] theorem State.raise_owed (s : State) (n : Notice) : (s.raise n).owed = s.owed := by
  unfold State.raise; split <;> [split <;> rfl; rfl]
@[simp] theorem State.raise_pending (s : State) (n : Notice) : (s.raise n).pending = s.pending := by
  unfold State.raise; split <;> [split <;> rfl; rfl]

/-! ## An entry added to the speaker list, or not (R104) -/

@[simp] theorem State.appendSpeaker_trunk (s : State) (c : Chan) (n : Nat) :
    (s.appendSpeaker c n).trunk = s.trunk := by
  unfold State.appendSpeaker; split <;> rfl
@[simp] theorem State.appendSpeaker_lostRun (s : State) (c : Chan) (n : Nat) :
    (s.appendSpeaker c n).lostRun = s.lostRun := by
  unfold State.appendSpeaker; split <;> rfl
@[simp] theorem State.appendSpeaker_awaiting (s : State) (c : Chan) (n : Nat) :
    (s.appendSpeaker c n).awaiting = s.awaiting := by
  unfold State.appendSpeaker; split <;> rfl
@[simp] theorem State.appendSpeaker_scan (s : State) (c : Chan) (n : Nat) :
    (s.appendSpeaker c n).scan = s.scan := by
  unfold State.appendSpeaker; split <;> rfl
@[simp] theorem State.appendSpeaker_discarded (s : State) (c : Chan) (n : Nat) :
    (s.appendSpeaker c n).discarded = s.discarded := by
  unfold State.appendSpeaker; split <;> rfl
@[simp] theorem State.appendSpeaker_frame (s : State) (c : Chan) (n : Nat) :
    (s.appendSpeaker c n).frame = s.frame := by
  unfold State.appendSpeaker; split <;> rfl
@[simp] theorem State.appendSpeaker_stream (s : State) (c : Chan) (n : Nat) :
    (s.appendSpeaker c n).stream = s.stream := by
  unfold State.appendSpeaker; split <;> rfl
@[simp] theorem State.appendSpeaker_sweepNumber (s : State) (c : Chan) (n : Nat) :
    (s.appendSpeaker c n).sweepNumber = s.sweepNumber := by
  unfold State.appendSpeaker; split <;> rfl
@[simp] theorem State.appendSpeaker_lastEmitted (s : State) (c : Chan) (n : Nat) :
    (s.appendSpeaker c n).lastEmitted = s.lastEmitted := by
  unfold State.appendSpeaker; split <;> rfl
@[simp] theorem State.appendSpeaker_blinkCount (s : State) (c : Chan) (n : Nat) :
    (s.appendSpeaker c n).blinkCount = s.blinkCount := by
  unfold State.appendSpeaker; split <;> rfl
@[simp] theorem State.appendSpeaker_blinkOn (s : State) (c : Chan) (n : Nat) :
    (s.appendSpeaker c n).blinkOn = s.blinkOn := by
  unfold State.appendSpeaker; split <;> rfl
@[simp] theorem State.appendSpeaker_link (s : State) (c : Chan) (n : Nat) :
    (s.appendSpeaker c n).link = s.link := by
  unfold State.appendSpeaker; split <;> rfl
@[simp] theorem State.appendSpeaker_lockCount (s : State) (c : Chan) (n : Nat) :
    (s.appendSpeaker c n).lockCount = s.lockCount := by
  unfold State.appendSpeaker; split <;> rfl
@[simp] theorem State.appendSpeaker_program (s : State) (c : Chan) (n : Nat) :
    (s.appendSpeaker c n).program = s.program := by
  unfold State.appendSpeaker; split <;> rfl
@[simp] theorem State.appendSpeaker_seats (s : State) (c : Chan) (n : Nat) :
    (s.appendSpeaker c n).seats = s.seats := by
  unfold State.appendSpeaker; split <;> rfl
@[simp] theorem State.appendSpeaker_agenda (s : State) (c : Chan) (n : Nat) :
    (s.appendSpeaker c n).agenda = s.agenda := by
  unfold State.appendSpeaker; split <;> rfl
@[simp] theorem State.appendSpeaker_floor (s : State) (c : Chan) (n : Nat) :
    (s.appendSpeaker c n).floor = s.floor := by
  unfold State.appendSpeaker; split <;> rfl
@[simp] theorem State.appendSpeaker_waiting (s : State) (c : Chan) (n : Nat) :
    (s.appendSpeaker c n).waiting = s.waiting := by
  unfold State.appendSpeaker; split <;> rfl
@[simp] theorem State.appendSpeaker_rotation (s : State) (c : Chan) (n : Nat) :
    (s.appendSpeaker c n).rotation = s.rotation := by
  unfold State.appendSpeaker; split <;> rfl
@[simp] theorem State.appendSpeaker_channels (s : State) (c : Chan) (n : Nat) :
    (s.appendSpeaker c n).channels = s.channels := by
  unfold State.appendSpeaker; split <;> rfl
@[simp] theorem State.appendSpeaker_gains (s : State) (c : Chan) (n : Nat) :
    (s.appendSpeaker c n).gains = s.gains := by
  unfold State.appendSpeaker; split <;> rfl
@[simp] theorem State.appendSpeaker_cursor (s : State) (c : Chan) (n : Nat) :
    (s.appendSpeaker c n).cursor = s.cursor := by
  unfold State.appendSpeaker; split <;> rfl
@[simp] theorem State.appendSpeaker_rx (s : State) (c : Chan) (n : Nat) :
    (s.appendSpeaker c n).rx = s.rx := by
  unfold State.appendSpeaker; split <;> rfl
@[simp] theorem State.appendSpeaker_buffer (s : State) (c : Chan) (n : Nat) :
    (s.appendSpeaker c n).buffer = s.buffer := by
  unfold State.appendSpeaker; split <;> rfl
@[simp] theorem State.appendSpeaker_replies (s : State) (c : Chan) (n : Nat) :
    (s.appendSpeaker c n).replies = s.replies := by
  unfold State.appendSpeaker; split <;> rfl
@[simp] theorem State.appendSpeaker_notices (s : State) (c : Chan) (n : Nat) :
    (s.appendSpeaker c n).notices = s.notices := by
  unfold State.appendSpeaker; split <;> rfl
@[simp] theorem State.appendSpeaker_overrun (s : State) (c : Chan) (n : Nat) :
    (s.appendSpeaker c n).overrun = s.overrun := by
  unfold State.appendSpeaker; split <;> rfl
@[simp] theorem State.appendSpeaker_lostCount (s : State) (c : Chan) (n : Nat) :
    (s.appendSpeaker c n).lostCount = s.lostCount := by
  unfold State.appendSpeaker; split <;> rfl
@[simp] theorem State.appendSpeaker_sending (s : State) (c : Chan) (n : Nat) :
    (s.appendSpeaker c n).sending = s.sending := by
  unfold State.appendSpeaker; split <;> rfl
@[simp] theorem State.appendSpeaker_settings (s : State) (c : Chan) (n : Nat) :
    (s.appendSpeaker c n).settings = s.settings := by
  unfold State.appendSpeaker; split <;> rfl
@[simp] theorem State.appendSpeaker_trunkOut (s : State) (c : Chan) (n : Nat) :
    (s.appendSpeaker c n).trunkOut = s.trunkOut := by
  unfold State.appendSpeaker; split <;> rfl
@[simp] theorem State.appendSpeaker_headOut (s : State) (c : Chan) (n : Nat) :
    (s.appendSpeaker c n).headOut = s.headOut := by
  unfold State.appendSpeaker; split <;> rfl
@[simp] theorem State.appendSpeaker_owed (s : State) (c : Chan) (n : Nat) :
    (s.appendSpeaker c n).owed = s.owed := by
  unfold State.appendSpeaker; split <;> rfl
@[simp] theorem State.appendSpeaker_pending (s : State) (c : Chan) (n : Nat) :
    (s.appendSpeaker c n).pending = s.pending := by
  unfold State.appendSpeaker; split <;> rfl

/-! ## An entry gone from the speaker list, or not (R107) -/

@[simp] theorem State.removeSpeaker_trunk (s : State) (c : Chan) :
    (s.removeSpeaker c).trunk = s.trunk := by
  unfold State.removeSpeaker; split <;> rfl
@[simp] theorem State.removeSpeaker_lostRun (s : State) (c : Chan) :
    (s.removeSpeaker c).lostRun = s.lostRun := by
  unfold State.removeSpeaker; split <;> rfl
@[simp] theorem State.removeSpeaker_awaiting (s : State) (c : Chan) :
    (s.removeSpeaker c).awaiting = s.awaiting := by
  unfold State.removeSpeaker; split <;> rfl
@[simp] theorem State.removeSpeaker_scan (s : State) (c : Chan) :
    (s.removeSpeaker c).scan = s.scan := by
  unfold State.removeSpeaker; split <;> rfl
@[simp] theorem State.removeSpeaker_discarded (s : State) (c : Chan) :
    (s.removeSpeaker c).discarded = s.discarded := by
  unfold State.removeSpeaker; split <;> rfl
@[simp] theorem State.removeSpeaker_frame (s : State) (c : Chan) :
    (s.removeSpeaker c).frame = s.frame := by
  unfold State.removeSpeaker; split <;> rfl
@[simp] theorem State.removeSpeaker_stream (s : State) (c : Chan) :
    (s.removeSpeaker c).stream = s.stream := by
  unfold State.removeSpeaker; split <;> rfl
@[simp] theorem State.removeSpeaker_sweepNumber (s : State) (c : Chan) :
    (s.removeSpeaker c).sweepNumber = s.sweepNumber := by
  unfold State.removeSpeaker; split <;> rfl
@[simp] theorem State.removeSpeaker_lastEmitted (s : State) (c : Chan) :
    (s.removeSpeaker c).lastEmitted = s.lastEmitted := by
  unfold State.removeSpeaker; split <;> rfl
@[simp] theorem State.removeSpeaker_blinkCount (s : State) (c : Chan) :
    (s.removeSpeaker c).blinkCount = s.blinkCount := by
  unfold State.removeSpeaker; split <;> rfl
@[simp] theorem State.removeSpeaker_blinkOn (s : State) (c : Chan) :
    (s.removeSpeaker c).blinkOn = s.blinkOn := by
  unfold State.removeSpeaker; split <;> rfl
@[simp] theorem State.removeSpeaker_link (s : State) (c : Chan) :
    (s.removeSpeaker c).link = s.link := by
  unfold State.removeSpeaker; split <;> rfl
@[simp] theorem State.removeSpeaker_lockCount (s : State) (c : Chan) :
    (s.removeSpeaker c).lockCount = s.lockCount := by
  unfold State.removeSpeaker; split <;> rfl
@[simp] theorem State.removeSpeaker_program (s : State) (c : Chan) :
    (s.removeSpeaker c).program = s.program := by
  unfold State.removeSpeaker; split <;> rfl
@[simp] theorem State.removeSpeaker_seats (s : State) (c : Chan) :
    (s.removeSpeaker c).seats = s.seats := by
  unfold State.removeSpeaker; split <;> rfl
@[simp] theorem State.removeSpeaker_agenda (s : State) (c : Chan) :
    (s.removeSpeaker c).agenda = s.agenda := by
  unfold State.removeSpeaker; split <;> rfl
@[simp] theorem State.removeSpeaker_floor (s : State) (c : Chan) :
    (s.removeSpeaker c).floor = s.floor := by
  unfold State.removeSpeaker; split <;> rfl
@[simp] theorem State.removeSpeaker_waiting (s : State) (c : Chan) :
    (s.removeSpeaker c).waiting = s.waiting := by
  unfold State.removeSpeaker; split <;> rfl
@[simp] theorem State.removeSpeaker_rotation (s : State) (c : Chan) :
    (s.removeSpeaker c).rotation = s.rotation := by
  unfold State.removeSpeaker; split <;> rfl
@[simp] theorem State.removeSpeaker_channels (s : State) (c : Chan) :
    (s.removeSpeaker c).channels = s.channels := by
  unfold State.removeSpeaker; split <;> rfl
@[simp] theorem State.removeSpeaker_gains (s : State) (c : Chan) :
    (s.removeSpeaker c).gains = s.gains := by
  unfold State.removeSpeaker; split <;> rfl
@[simp] theorem State.removeSpeaker_cursor (s : State) (c : Chan) :
    (s.removeSpeaker c).cursor = s.cursor := by
  unfold State.removeSpeaker; split <;> rfl
@[simp] theorem State.removeSpeaker_rx (s : State) (c : Chan) :
    (s.removeSpeaker c).rx = s.rx := by
  unfold State.removeSpeaker; split <;> rfl
@[simp] theorem State.removeSpeaker_buffer (s : State) (c : Chan) :
    (s.removeSpeaker c).buffer = s.buffer := by
  unfold State.removeSpeaker; split <;> rfl
@[simp] theorem State.removeSpeaker_replies (s : State) (c : Chan) :
    (s.removeSpeaker c).replies = s.replies := by
  unfold State.removeSpeaker; split <;> rfl
@[simp] theorem State.removeSpeaker_notices (s : State) (c : Chan) :
    (s.removeSpeaker c).notices = s.notices := by
  unfold State.removeSpeaker; split <;> rfl
@[simp] theorem State.removeSpeaker_overrun (s : State) (c : Chan) :
    (s.removeSpeaker c).overrun = s.overrun := by
  unfold State.removeSpeaker; split <;> rfl
@[simp] theorem State.removeSpeaker_lostCount (s : State) (c : Chan) :
    (s.removeSpeaker c).lostCount = s.lostCount := by
  unfold State.removeSpeaker; split <;> rfl
@[simp] theorem State.removeSpeaker_sending (s : State) (c : Chan) :
    (s.removeSpeaker c).sending = s.sending := by
  unfold State.removeSpeaker; split <;> rfl
@[simp] theorem State.removeSpeaker_settings (s : State) (c : Chan) :
    (s.removeSpeaker c).settings = s.settings := by
  unfold State.removeSpeaker; split <;> rfl
@[simp] theorem State.removeSpeaker_trunkOut (s : State) (c : Chan) :
    (s.removeSpeaker c).trunkOut = s.trunkOut := by
  unfold State.removeSpeaker; split <;> rfl
@[simp] theorem State.removeSpeaker_headOut (s : State) (c : Chan) :
    (s.removeSpeaker c).headOut = s.headOut := by
  unfold State.removeSpeaker; split <;> rfl
@[simp] theorem State.removeSpeaker_owed (s : State) (c : Chan) :
    (s.removeSpeaker c).owed = s.owed := by
  unfold State.removeSpeaker; split <;> rfl
@[simp] theorem State.removeSpeaker_pending (s : State) (c : Chan) :
    (s.removeSpeaker c).pending = s.pending := by
  unfold State.removeSpeaker; split <;> rfl

end Sys2Proof.Machine
end

