-- ==== Sys2Proof/Laws/Access.lean ====
section
/-! SUPPORT. Channels by name and seats by number: what a read gives after a write, and that a write leaves every other place
alone. -/

namespace Sys2Proof.Machine

/-! ## Channels by name -/

@[simp] theorem PerChan.get_set_same {α : Type} (t : PerChan α) (c : Chan) (a : α) : (t.set c a).get c = a := by
  cases c <;> rfl

theorem PerChan.get_set_ne {α : Type} (t : PerChan α) {c d : Chan} (a : α) (h : d ≠ c) : (t.set c a).get d = t.get d := by
  cases c <;> cases d <;> first | rfl | exact absurd rfl h

@[simp] theorem PerChan.get_tabulate {α : Type} (f : Chan → α) (c : Chan) : (PerChan.tabulate f).get c = f c := by
  cases c <;> rfl

@[simp] theorem PerChan.get_all {α : Type} (a : α) (c : Chan) : (PerChan.all a).get c = a := by cases c <;> rfl

/-- Two tables with the same value at every name are one table. -/
theorem PerChan.ext_get {α : Type} {t u : PerChan α} (h : ∀ c, t.get c = u.get c) : t = u := by
  have h1 := h .c1; have h2 := h .c2; have h3 := h .c3; have h4 := h .c4; have h5 := h .c5
  have h6 := h .c6; have h7 := h .c7; have h8 := h .c8; have h9 := h .p
  cases t; cases u; simp_all [PerChan.get]

theorem mem_allChans (c : Chan) : c ∈ allChans := by cases c <;> decide

theorem mem_ordinaryChans {c : Chan} : c ∈ ordinaryChans ↔ c.isOrdinary = true := by cases c <;> decide

@[simp] theorem State.chan_setChan_same (s : State) (c : Chan) (r : Channel) : (s.setChan c r).chan c = r :=
  PerChan.get_set_same _ _ _

theorem State.chan_setChan_ne (s : State) {c d : Chan} (r : Channel) (h : d ≠ c) : (s.setChan c r).chan d = s.chan d :=
  PerChan.get_set_ne _ _ h

@[simp] theorem State.chan_setOwed (s : State) (o : Owed) (c : Chan) : (s.setOwed o).chan c = s.chan c := rfl

@[simp] theorem State.chan_reply (s : State) (tag : Byte) (b : ReplyBody) (c : Chan) : (s.reply tag b).chan c = s.chan c :=
  rfl

@[simp] theorem State.chan_withBuffer (s : State) (rest : List Entry) (c : Chan) : (s.withBuffer rest).chan c = s.chan c :=
  rfl

@[simp] theorem State.chan_leaveSilently (s : State) (n : Nat) (c : Chan) : (s.leaveSilently n).chan c = s.chan c := rfl

@[simp] theorem State.chan_updSeat (s : State) (n : Nat) (f : Seat → Seat) (c : Chan) :
    (s.updSeat n f).chan c = s.chan c := by simp [State.chan]

@[simp] theorem State.chan_setPlace (s : State) (n : Nat) (p : Place) (b : Option Chan) (c : Chan) :
    (s.setPlace n p b).chan c = s.chan c := by simp [State.chan]

@[simp] theorem State.chan_raise (s : State) (n : Notice) (c : Chan) : (s.raise n).chan c = s.chan c := by
  simp [State.chan]

@[simp] theorem State.chan_appendSpeaker (s : State) (d : Chan) (n : Nat) (c : Chan) :
    (s.appendSpeaker d n).chan c = s.chan c := by simp [State.chan]

@[simp] theorem State.chan_removeSpeaker (s : State) (d : Chan) (c : Chan) :
    (s.removeSpeaker d).chan c = s.chan c := by simp [State.chan]

/-! ## Seats by number -/

/-- A seat number in range, among the seat numbers. -/
theorem mem_seatNumbers {n : Nat} : n ∈ seatNumbers ↔ 1 ≤ n ∧ n ≤ 200 := by
  simp only [seatNumbers, Config.seatCount, List.mem_range'_1]; omega

@[simp] theorem State.updSeat_length (s : State) (n : Nat) (f : Seat → Seat) :
    (s.updSeat n f).seats.length = s.seats.length := by
  cases n <;> simp [State.updSeat]

/-- Seat `n` after seat `n` is changed, when there is such a seat. -/
theorem State.seat_updSeat_same (s : State) {n : Nat} (f : Seat → Seat) (h1 : 1 ≤ n) (h2 : n ≤ s.seats.length) :
    (s.updSeat n f).seat n = f (s.seat n) := by
  cases n with
  | zero => omega
  | succ k =>
    have hk : k < s.seats.length := by omega
    simp [State.updSeat, State.seat, List.getD_eq_getElem?_getD, hk]

/-- Any other seat after seat `n` is changed. -/
theorem State.seat_updSeat_ne (s : State) {n m : Nat} (f : Seat → Seat) (h : m ≠ n) :
    (s.updSeat n f).seat m = s.seat m := by
  cases n with
  | zero => rfl
  | succ k =>
    cases m with
    | zero => rfl
    | succ j =>
      have hjk : k ≠ j := by omega
      simp [State.updSeat, State.seat, List.getD_eq_getElem?_getD, hjk]

/-- Changing a seat that does not exist changes nothing. -/
theorem State.updSeat_out (s : State) {n : Nat} (f : Seat → Seat) (h : n = 0 ∨ s.seats.length < n) : s.updSeat n f = s := by
  cases n with
  | zero => rfl
  | succ k =>
    have hk : s.seats.length ≤ k := by omega
    have : s.seats.modify k f = s.seats := by
      apply List.ext_getElem?
      intro i
      rw [List.getElem?_modify]
      split
      · next hi => subst hi; simp [hk]
      · simp
    simp [State.updSeat, this]

theorem State.seat_setPlace_same (s : State) {n : Nat} (p : Place) (b : Option Chan) (h1 : 1 ≤ n) (h2 : n ≤ s.seats.length) :
    (s.setPlace n p b).seat n = { s.seat n with place := p, bound := b } :=
  s.seat_updSeat_same _ h1 h2

theorem State.seat_setPlace_ne (s : State) {n m : Nat} (p : Place) (b : Option Chan) (h : m ≠ n) :
    (s.setPlace n p b).seat m = s.seat m := s.seat_updSeat_ne _ h

@[simp] theorem State.setPlace_length (s : State) (n : Nat) (p : Place) (b : Option Chan) :
    (s.setPlace n p b).seats.length = s.seats.length := s.updSeat_length n _

/-- Two states with the same seats read alike at every number. -/
theorem State.seat_congr {s t : State} (h : t.seats = s.seats) (n : Nat) : t.seat n = s.seat n := by
  cases n <;> simp [State.seat, h]

@[simp] theorem State.seat_setChan (s : State) (c : Chan) (r : Channel) (n : Nat) : (s.setChan c r).seat n = s.seat n :=
  State.seat_congr rfl n

@[simp] theorem State.seat_setOwed (s : State) (o : Owed) (n : Nat) : (s.setOwed o).seat n = s.seat n :=
  State.seat_congr rfl n

@[simp] theorem State.seat_reply (s : State) (tag : Byte) (b : ReplyBody) (n : Nat) : (s.reply tag b).seat n = s.seat n :=
  State.seat_congr rfl n

@[simp] theorem State.seat_withBuffer (s : State) (rest : List Entry) (n : Nat) : (s.withBuffer rest).seat n = s.seat n :=
  State.seat_congr rfl n

@[simp] theorem State.seat_leaveSilently (s : State) (m n : Nat) : (s.leaveSilently m).seat n = s.seat n :=
  State.seat_congr rfl n

@[simp] theorem State.seat_raise (s : State) (x : Notice) (n : Nat) : (s.raise x).seat n = s.seat n :=
  State.seat_congr (by simp) n

@[simp] theorem State.seat_appendSpeaker (s : State) (c : Chan) (m n : Nat) : (s.appendSpeaker c m).seat n = s.seat n :=
  State.seat_congr (by simp) n

@[simp] theorem State.seat_removeSpeaker (s : State) (c : Chan) (n : Nat) : (s.removeSpeaker c).seat n = s.seat n :=
  State.seat_congr (by simp) n

/-! ## Notices -/

/-- R166: everything a raised notice can do to the queue, the mark and the count. -/
theorem State.raise_cases (s : State) (n : Notice) :
    (s.settings.enables n = false ∧ s.raise n = s) ∨
    (s.settings.enables n = true ∧ s.notices.length < 32 ∧ s.raise n = { s with notices := s.notices ++ [n] }) ∨
    (s.settings.enables n = true ∧ 32 ≤ s.notices.length ∧
      s.raise n = { s with overrun := true, lostCount := min (s.lostCount + 1) 65535 }) := by
  unfold State.raise
  cases h : s.settings.enables n
  · exact .inl ⟨rfl, rfl⟩
  · by_cases hl : s.notices.length < 32
    · exact .inr (.inl ⟨rfl, hl, by simp [hl]⟩)
    · exact .inr (.inr ⟨rfl, by omega, by simp [hl]⟩)

end Sys2Proof.Machine
end

