-- ==== Sys2Proof/Laws/Floor.lean ====
section
/-! SUPPORT. What an operation of the floor arbiter and the channel unit can reach, said once for each of them: the seats'
places, bound channels and lockouts, the floor state, the two lists, the channel records, the notice queue, and the lockouts
and timers that stand due.
Everything else is `frozen`: no such operation changes it. -/

namespace Sys2Proof.Machine

/-- A seat without its place, its bound channel and its lockout. -/
def Seat.frozen (t : Seat) : Seat := { t with place := .idle, bound := none, lockout := 0 }

/-- A state without what the floor's operations can reach. -/
def State.frozen (s : State) : State :=
  { s with
    seats := s.seats.map Seat.frozen, floor := .closed, waiting := [], speakers := [], channels := State.reset.channels,
    notices := [], overrun := false, lostCount := 0, owed := { s.owed with lockouts := [], timers := [] } }

/-! ## The elementary updates -/

@[simp] theorem State.frozen_setChan (s : State) (c : Chan) (r : Channel) : (s.setChan c r).frozen = s.frozen := rfl

@[simp] theorem State.frozen_withFloor (s : State) (f : Floor) : { s with floor := f }.frozen = s.frozen := rfl

@[simp] theorem State.frozen_withWaiting (s : State) (l : List WaitEntry) : { s with waiting := l }.frozen = s.frozen := rfl

theorem State.frozen_updSeat (s : State) (n : Nat) (f : Seat → Seat) (h : ∀ t, (f t).frozen = t.frozen) :
    (s.updSeat n f).frozen = s.frozen := by
  cases n with
  | zero => rfl
  | succ k =>
    have : (s.seats.modify k f).map Seat.frozen = s.seats.map Seat.frozen := by
      apply List.ext_getElem?
      intro i
      simp only [List.getElem?_map, List.getElem?_modify]
      split <;> cases s.seats[i]? <;> simp [h]
    simp [State.updSeat, State.frozen, this]

@[simp] theorem State.frozen_setPlace (s : State) (n : Nat) (p : Place) (b : Option Chan) :
    (s.setPlace n p b).frozen = s.frozen := s.frozen_updSeat n _ fun _ => rfl

@[simp] theorem State.frozen_raise (s : State) (n : Notice) : (s.raise n).frozen = s.frozen := by
  obtain ⟨-, h⟩ | ⟨-, -, h⟩ | ⟨-, -, h⟩ := s.raise_cases n <;> rw [h] <;> rfl

@[simp] theorem State.frozen_appendSpeaker (s : State) (c : Chan) (n : Nat) : (s.appendSpeaker c n).frozen = s.frozen := by
  unfold State.appendSpeaker; split <;> rfl

@[simp] theorem State.frozen_removeSpeaker (s : State) (c : Chan) : (s.removeSpeaker c).frozen = s.frozen := by
  unfold State.removeSpeaker; split <;> rfl

@[simp] theorem State.frozen_stopTimer (s : State) (c : Chan) : (s.stopTimer c).frozen = s.frozen := rfl

@[simp] theorem State.frozen_leaveSilently (s : State) (n : Nat) : (s.leaveSilently n).frozen = s.frozen := rfl

@[simp] theorem State.frozen_loadLockout (s : State) (n : Nat) : (s.loadLockout n).frozen = s.frozen := by
  have h := s.frozen_updSeat n (fun t => { t with lockout := s.settings.lockout }) fun _ => rfl
  rw [← h]
  cases n <;> rfl

/-- A fold of operations that leave the frozen part leaves it. -/
theorem State.frozen_foldl {α : Type} (f : State → α → State) (h : ∀ s a, (f s a).frozen = s.frozen) (l : List α) (s : State) :
    (l.foldl f s).frozen = s.frozen := by
  induction l generalizing s with
  | nil => rfl
  | cons a l ih => simp [ih, h]

/-! ## The waiting list, Grant and End -/

@[simp] theorem State.frozen_removeWaiting (s : State) (n : Nat) (r : Reason) : (s.removeWaiting n r).frozen = s.frozen := by
  simp [State.removeWaiting]

@[simp] theorem State.frozen_clearWaiting (s : State) (r : Reason) : (s.clearWaiting r).frozen = s.frozen :=
  State.frozen_foldl _ (by simp) _ _

@[simp] theorem State.frozen_insertWaiting (s : State) (n k i : Nat) : (s.insertWaiting n k i).frozen = s.frozen := by
  simp [State.insertWaiting]

@[simp] theorem State.frozen_joinList (s : State) (c : Context) (n k : Nat) : (s.joinList c n k).frozen = s.frozen := by
  unfold State.joinList; split <;> [simp; (split <;> simp)]

@[simp] theorem State.frozen_raiseGrantWarning (s : State) (c : Chan) (n : Nat) (r : Option Nat) (w : Bool) :
    (s.raiseGrantWarning c n r w).frozen = s.frozen := by
  unfold State.raiseGrantWarning; split <;> [rfl; (split <;> simp)]

@[simp] theorem State.frozen_grant (s : State) (c : Chan) (n : Nat) (l : Bool) : (s.grant c n l).frozen = s.frozen := by
  simp [State.grant]

@[simp] theorem State.frozen_release (s : State) (c : Chan) (n : Nat) (r : Reason) : (s.release c n r).frozen = s.frozen := by
  unfold State.release; split <;> simp_all

@[simp] theorem State.frozen_releaseSpeakers (s : State) (r : Reason) : (s.releaseSpeakers r).frozen = s.frozen :=
  State.frozen_foldl _ (by simp) _ _

/-! ## Fill, and the ends that fill completes -/

@[simp] theorem State.frozen_grantHeads (k : Nat) (s : State) : (State.grantHeads k s).frozen = s.frozen := by
  induction k generalizing s with
  | zero => rfl
  | succ k ih => unfold State.grantHeads; split <;> simp [ih]

@[simp] theorem State.frozen_fill (s : State) : s.fill.frozen = s.frozen := by
  unfold State.fill; split <;> simp

@[simp] theorem State.frozen_endOrdinary (s : State) (c : Chan) (n : Nat) (r : Reason) :
    (s.endOrdinary c n r).frozen = s.frozen := by simp [State.endOrdinary]

@[simp] theorem State.frozen_endSpeakers (s : State) (r : Reason) : (s.endSpeakers r).frozen = s.frozen :=
  State.frozen_foldl _ (by simp) _ _

@[simp] theorem State.frozen_applyPriorityEnd (s : State) (e : PriorityEnd) : (s.applyPriorityEnd e).frozen = s.frozen := by
  cases e <;> simp [State.applyPriorityEnd]

@[simp] theorem State.frozen_endIntervention (s : State) (n : Nat) : (s.endIntervention n).frozen = s.frozen := by
  unfold State.endIntervention; split <;> simp

@[simp] theorem State.frozen_endPriority (s : State) (n : Nat) (r : Reason) : (s.endPriority n r).frozen = s.frozen := by
  simp [State.endPriority]

@[simp] theorem State.frozen_endSeat (s : State) (n : Nat) (r : Reason) : (s.endSeat n r).frozen = s.frozen := by
  unfold State.endSeat; split <;> simp

/-! ## Requests, withdraw, next, cancel -/

@[simp] theorem State.frozen_insertHead (s : State) (c : Context) (n k : Nat) : (s.insertHead c n k).frozen = s.frozen := by
  unfold State.insertHead; split <;> [simp; (split <;> simp)]

@[simp] theorem State.frozen_serveDisplacer (s : State) (c : Context) (n k : Nat) :
    (s.serveDisplacer c n k).frozen = s.frozen := by
  unfold State.serveDisplacer; split <;> simp

@[simp] theorem State.frozen_displace (s : State) (c : Context) (n k : Nat) : (s.displace c n k).frozen = s.frozen := by
  unfold State.displace; split <;> [simp; (split <;> simp)]

@[simp] theorem State.frozen_requestOpen (s : State) (c : Context) (n k : Nat) : (s.requestOpen c n k).frozen = s.frozen := by
  unfold State.requestOpen; split <;> first | (simp; done) | (split <;> simp)

@[simp] theorem State.frozen_requestHeld (s : State) (c : Context) (n k : Nat) : (s.requestHeld c n k).frozen = s.frozen := by
  unfold State.requestHeld; split <;> simp

@[simp] theorem State.frozen_judgeRequest (s : State) (n k : Nat) : (s.judgeRequest n k).frozen = s.frozen := by
  unfold State.judgeRequest
  repeat' split
  all_goals simp

@[simp] theorem State.frozen_judgeWithdraw (s : State) (n : Nat) : (s.judgeWithdraw n).frozen = s.frozen := by
  unfold State.judgeWithdraw; split <;> simp

@[simp] theorem State.frozen_takeNext (s : State) : s.takeNext.frozen = s.frozen := by
  unfold State.takeNext; split <;> [rfl; (split <;> simp)]

@[simp] theorem State.frozen_cancelFloor (s : State) : s.cancelFloor.frozen = s.frozen := by simp [State.cancelFloor]

/-! ## The priority intervention, and seats taken off the floor -/

@[simp] theorem State.frozen_escalate (s : State) (n : Nat) : (s.escalate n).frozen = s.frozen := by
  unfold State.escalate; split <;> simp

@[simp] theorem State.frozen_startPriority (s : State) (n : Nat) : (s.startPriority n).frozen = s.frozen := by
  simp [State.startPriority]

@[simp] theorem State.frozen_judgePriorityHeld (s : State) (n : Nat) : (s.judgePriorityHeld n).frozen = s.frozen := by
  unfold State.judgePriorityHeld; split <;> simp

@[simp] theorem State.frozen_judgePriorityReleased (s : State) (n : Nat) :
    (s.judgePriorityReleased n).frozen = s.frozen := by
  unfold State.judgePriorityReleased; split <;> simp

@[simp] theorem State.frozen_takeOff (s : State) (l : List Nat) (r : Reason) : (s.takeOff l r).frozen = s.frozen := by
  unfold State.takeOff
  rw [State.frozen_foldl _ (by simp), State.frozen_foldl _ (by simp)]

@[simp] theorem State.frozen_endHolder (s : State) (r : Reason) : (s.endHolder r).frozen = s.frozen := by
  unfold State.endHolder; split <;> simp

@[simp] theorem State.frozen_breakFloor (s : State) : s.breakFloor.frozen = s.frozen := by simp [State.breakFloor]

@[simp] theorem State.frozen_answer (s : State) (a : KeyAct) (n k : Nat) : (s.answer a n k).frozen = s.frozen := by
  unfold State.answer
  split
  · simp
  · simp
  · unfold State.judgeNext; split <;> simp
  · unfold State.judgeCancel; split <;> simp
  · simp
  · simp

/-! ## Changeover and timers -/

@[simp] theorem State.frozen_raiseFitWarning (s : State) (e : Speaker) (b a : Bool) (r : Option Nat) :
    (s.raiseFitWarning e b a r).frozen = s.frozen := by
  unfold State.raiseFitWarning; split <;> [rfl; (split <;> simp)]

@[simp] theorem State.frozen_fitTimer (s : State) (c : Context) (e : Speaker) : (s.fitTimer c e).frozen = s.frozen := by
  unfold State.fitTimer State.meetExpiry
  simp only
  split <;> simp

@[simp] theorem State.frozen_carryFloor (s : State) (c : Context) : (s.carryFloor c).frozen = s.frozen := by
  unfold State.carryFloor State.fitTimers
  rw [State.frozen_foldl _ (by simp)]
  unfold State.fitListLimit
  rw [State.frozen_foldl _ (by simp)]
  have hd : ∀ t : State, (t.fitDirect c).frozen = t.frozen := by
    intro t; unfold State.fitDirect; split <;> simp
  rw [hd]
  unfold State.fitListAdmission
  rw [State.frozen_foldl _ (by simp)]
  unfold State.fitMaxLive
  rw [State.frozen_foldl _ (by simp)]
  unfold State.fitAdmission
  rw [State.frozen_foldl _ (by simp)]

@[simp] theorem State.frozen_clearFloor (s : State) (r : Reason) : (s.clearFloor r).frozen = s.frozen := by
  simp [State.clearFloor]

@[simp] theorem State.frozen_changeover (s : State) (c : Context) : (s.changeover c).frozen = s.frozen := by
  unfold State.changeover; split <;> simp

@[simp] theorem State.frozen_warnAfter (s : State) (x : Context) (c : Chan) (n r : Nat) :
    (s.warnAfter x c n r).frozen = s.frozen := by
  unfold State.warnAfter; split <;> simp

@[simp] theorem State.frozen_expireAfter (s : State) (x : Context) (c : Chan) (n : Nat) :
    (s.expireAfter x c n).frozen = s.frozen := by
  unfold State.expireAfter State.timeIsOver; split <;> simp

@[simp] theorem State.frozen_countDown (s : State) (x : Context) (c : Chan) (n r : Nat) :
    (s.countDown x c n r).frozen = s.frozen := by
  unfold State.countDown; split <;> simp

@[simp] theorem State.frozen_tick (s : State) (c : Chan) : (s.tick c).frozen = s.frozen := by
  unfold State.tick
  simp only
  split
  · split <;> simp
  · simp

/-! ## What the frozen part holds -/

/-- Two states with one frozen part differ only in what the floor's operations can reach. -/
theorem State.frozen_eq {s t : State} (h : t.frozen = s.frozen) :
    t = { s with seats := t.seats, floor := t.floor, waiting := t.waiting, speakers := t.speakers, channels := t.channels,
                 notices := t.notices, overrun := t.overrun, lostCount := t.lostCount, owed := t.owed } := by
  cases s; cases t
  simp only [State.frozen, State.mk.injEq] at h ⊢
  simp [h]

/-- No floor operation makes or unmakes a seat. -/
theorem State.frozen_length {s t : State} (h : t.frozen = s.frozen) : t.seats.length = s.seats.length := by
  simpa [State.frozen] using congrArg (fun u : State => u.seats.length) h

/-- The owed steps no floor operation changes: all but the due lockouts and timers. -/
theorem State.frozen_owed {s t : State} (h : t.frozen = s.frozen) :
    t.owed = { s.owed with lockouts := t.owed.lockouts, timers := t.owed.timers } := by
  have h1 : t.frozen.owed = s.frozen.owed := congrArg State.owed h
  simp only [State.frozen, Owed.mk.injEq] at h1
  cases ht : t.owed
  simp_all

/-- A seat outside its place, bound channel and lockout is as no floor operation changes it. -/
theorem State.frozen_seat {s t : State} (h : t.frozen = s.frozen) (n : Nat) : (t.seat n).frozen = (s.seat n).frozen := by
  have h1 : t.seats.map Seat.frozen = s.seats.map Seat.frozen := congrArg State.seats h
  cases n with
  | zero => rfl
  | succ k =>
    have h2 := congrArg (fun l : List Seat => l[k]?) h1
    simp only [List.getElem?_map] at h2
    simp only [State.seat, List.getD_eq_getElem?_getD]
    cases ht : t.seats[k]? <;> cases hs : s.seats[k]? <;> simp_all

end Sys2Proof.Machine
end

