-- ==== Sys2Proof/Laws/Operations.lean ====
section
/-! SUPPORT. Everything a shared operation does, said once: Grant, End, joining and leaving the waiting list, fill, dispatch,
presentation and the records a RESTART discarded.
Later proofs cite these and unfold none of the operations. -/

namespace Sys2Proof.Machine

/-! ## Grant (R104, R105) -/

/-- R104, step 5: the notices a Grant raises. -/
def grantNotices (c : Chan) (n : Nat) (fromList : Bool) (time : Option Nat) (warned : Bool) : List Notice :=
  .granted n c fromList :: (match time with
    | some r => if warned then [.warning n c (r / Config.intervalsPerTenth)] else []
    | none => [])

/-- R104: everything a Grant does: the channel record, the seat, the speaker list, the notices, and nothing else. -/
theorem State.grant_eq (s : State) (c : Chan) (n : Nat) (l : Bool) :
    s.grant c n l =
      (((s.setChan c { state := .live, seat := some n, remaining := s.grantTime c n, warned := s.grantWarned c n,
                       held := 0 }).setPlace n .live (some c)).appendSpeaker c n).raiseAll
        (grantNotices c n l (s.grantTime c n) (s.grantWarned c n)) := by
  unfold State.grant State.raiseGrantWarning grantNotices State.raiseAll
  cases s.grantTime c n with
  | none => rfl
  | some r => cases s.grantWarned c n <;> rfl

@[simp] theorem State.raiseAll_nil (s : State) : s.raiseAll [] = s := rfl

@[simp] theorem State.raiseAll_cons (s : State) (x : Notice) (l : List Notice) :
    s.raiseAll (x :: l) = (s.raise x).raiseAll l := rfl

theorem State.raiseAll_chan (s : State) (l : List Notice) (c : Chan) : (s.raiseAll l).chan c = s.chan c := by
  induction l generalizing s with
  | nil => rfl
  | cons x l ih => simp [ih]

theorem State.raiseAll_seat (s : State) (l : List Notice) (n : Nat) : (s.raiseAll l).seat n = s.seat n := by
  induction l generalizing s with
  | nil => rfl
  | cons x l ih => simp [ih]

theorem State.raiseAll_lists (s : State) (l : List Notice) :
    (s.raiseAll l).waiting = s.waiting ∧ (s.raiseAll l).speakers = s.speakers ∧ (s.raiseAll l).floor = s.floor ∧
      (s.raiseAll l).owed = s.owed := by
  induction l generalizing s with
  | nil => exact ⟨rfl, rfl, rfl, rfl⟩
  | cons x l ih => simpa using ih (s.raise x)

/-- The channel a Grant binds. -/
theorem State.grant_chan_same (s : State) (c : Chan) (n : Nat) (l : Bool) :
    (s.grant c n l).chan c =
      { state := .live, seat := some n, remaining := s.grantTime c n, warned := s.grantWarned c n, held := 0 } := by
  rw [State.grant_eq, State.raiseAll_chan]; simp

/-- Every other channel stands. -/
theorem State.grant_chan_ne (s : State) {c d : Chan} (n : Nat) (l : Bool) (h : d ≠ c) :
    (s.grant c n l).chan d = s.chan d := by
  rw [State.grant_eq, State.raiseAll_chan]; simp [State.chan_setChan_ne, h]

/-- The seat a Grant puts on the floor. -/
theorem State.grant_seat_same (s : State) (c : Chan) {n : Nat} (l : Bool) (h1 : 1 ≤ n) (h2 : n ≤ s.seats.length) :
    (s.grant c n l).seat n = { s.seat n with place := .live, bound := some c } := by
  rw [State.grant_eq, State.raiseAll_seat, State.seat_appendSpeaker,
    State.seat_setPlace_same _ _ _ h1 (by simpa using h2), State.seat_setChan]

/-- Every other seat stands. -/
theorem State.grant_seat_ne (s : State) (c : Chan) {n m : Nat} (l : Bool) (h : m ≠ n) :
    (s.grant c n l).seat m = s.seat m := by
  rw [State.grant_eq, State.raiseAll_seat, State.seat_appendSpeaker, State.seat_setPlace_ne _ _ _ h, State.seat_setChan]

/-- The lists and the floor after a Grant. -/
theorem State.grant_lists (s : State) (c : Chan) (n : Nat) (l : Bool) :
    (s.grant c n l).waiting = s.waiting ∧
      (s.grant c n l).speakers = (if c.isOrdinary then s.speakers ++ [{ chan := c, seat := n }] else s.speakers) ∧
      (s.grant c n l).floor = s.floor ∧ (s.grant c n l).owed = s.owed := by
  rw [State.grant_eq]
  obtain ⟨h1, h2, h3, h4⟩ := State.raiseAll_lists
    (((s.setChan c { state := .live, seat := some n, remaining := s.grantTime c n, warned := s.grantWarned c n,
                     held := 0 }).setPlace n .live (some c)).appendSpeaker c n)
    (grantNotices c n l (s.grantTime c n) (s.grantWarned c n))
  rw [h1, h2, h3, h4]
  refine ⟨by simp, ?_, by simp, by simp⟩
  unfold State.appendSpeaker
  split <;> simp

/-! ## End (R107, R108) -/

/-- A seat's place set in a state with the seats of `s`. -/
theorem State.seat_setPlace_of {s u : State} {n : Nat} (hu : u.seats = s.seats) (p : Place) (b : Option Chan) (h1 : 1 ≤ n)
    (h2 : n ≤ s.seats.length) : (u.setPlace n p b).seat n = { s.seat n with place := p, bound := b } := by
  rw [State.seat_setPlace_same _ _ _ h1 (hu ▸ h2), State.seat_congr hu]

/-- The channel an End releases. -/
theorem State.release_chan_same (s : State) (c : Chan) (n : Nat) (r : Reason) :
    (s.release c n r).chan c =
      { state := .releasing, seat := none, remaining := none, warned := false, held := (s.chan c).held } := by
  unfold State.release
  split <;> simp [State.stopTimer, State.loadLockout]

/-- Every other channel stands. -/
theorem State.release_chan_ne (s : State) {c d : Chan} (n : Nat) (r : Reason) (h : d ≠ c) :
    (s.release c n r).chan d = s.chan d := by
  unfold State.release
  split <;> simp [State.stopTimer, State.loadLockout, State.chan_setChan_ne, h]

/-- The seat an End takes off the floor: IDLE, and under the lockout in force unless it withdrew. -/
theorem State.release_seat_same (s : State) (c : Chan) {n : Nat} (r : Reason) (h1 : 1 ≤ n) (h2 : n ≤ s.seats.length) :
    (s.release c n r).seat n =
      { s.seat n with
        place := .idle, bound := none,
        lockout := if r = .withdrawn then (s.seat n).lockout else s.settings.lockout } := by
  unfold State.release
  split
  · rw [State.seat_raise, State.seat_removeSpeaker]
    exact State.seat_setPlace_of (u := (s.setChan c _).stopTimer c) rfl _ _ h1 h2
  · rw [State.seat_raise, State.loadLockout, State.seat_setOwed,
      State.seat_updSeat_same _ _ h1 (by simpa [State.stopTimer] using h2), State.seat_removeSpeaker,
      State.seat_setPlace_of (s := s) (u := (s.setChan c _).stopTimer c) rfl _ _ h1 h2]
    simp [State.stopTimer]

/-- Every other seat stands. -/
theorem State.release_seat_ne (s : State) (c : Chan) {n m : Nat} (r : Reason) (h : m ≠ n) :
    (s.release c n r).seat m = s.seat m := by
  unfold State.release
  split <;> simp [State.stopTimer, State.loadLockout, State.seat_setPlace_ne _ _ _ h, State.seat_updSeat_ne _ _ h]

/-- The lists and the floor after an End. -/
theorem State.release_lists (s : State) (c : Chan) (n : Nat) (r : Reason) :
    (s.release c n r).waiting = s.waiting ∧
      (s.release c n r).speakers = (if c.isOrdinary then s.speakers.filter fun e => e.chan != c else s.speakers) ∧
      (s.release c n r).floor = s.floor := by
  unfold State.release State.removeSpeaker
  refine ⟨?_, ?_, ?_⟩ <;> (repeat' split) <;> simp_all [State.stopTimer, State.loadLockout]

/-! ## The waiting list (R75, R76) -/

/-- The list after a removal, and the seat removed. -/
theorem State.removeWaiting_lists (s : State) (n : Nat) (r : Reason) :
    (s.removeWaiting n r).waiting = s.waiting.filter (fun e => e.seat != n) ∧
      (s.removeWaiting n r).speakers = s.speakers ∧ (s.removeWaiting n r).floor = s.floor ∧
      (s.removeWaiting n r).channels = s.channels ∧ (s.removeWaiting n r).owed = s.owed := by
  simp [State.removeWaiting]

theorem State.removeWaiting_seat_same (s : State) {n : Nat} (r : Reason) (h1 : 1 ≤ n) (h2 : n ≤ s.seats.length) :
    (s.removeWaiting n r).seat n = { s.seat n with place := .idle, bound := none } := by
  rw [State.removeWaiting, State.seat_raise]
  exact State.seat_setPlace_of (u := { s with waiting := s.waiting.filter fun e => e.seat != n }) rfl _ _ h1 h2

theorem State.removeWaiting_seat_ne (s : State) {n m : Nat} (r : Reason) (h : m ≠ n) :
    (s.removeWaiting n r).seat m = s.seat m := by
  rw [State.removeWaiting, State.seat_raise, State.seat_setPlace_ne _ _ _ h]
  exact State.seat_congr rfl m

/-- The list after a seat joins, and the seat that joined. -/
theorem State.insertWaiting_lists (s : State) (n k i : Nat) :
    (s.insertWaiting n k i).waiting = s.waiting.insertIdx i { seat := n, sweep := k } ∧
      (s.insertWaiting n k i).speakers = s.speakers ∧ (s.insertWaiting n k i).floor = s.floor ∧
      (s.insertWaiting n k i).channels = s.channels ∧ (s.insertWaiting n k i).owed = s.owed := by
  simp [State.insertWaiting]

theorem State.insertWaiting_seat_same (s : State) {n : Nat} (k i : Nat) (h1 : 1 ≤ n) (h2 : n ≤ s.seats.length) :
    (s.insertWaiting n k i).seat n = { s.seat n with place := .waiting, bound := none } := by
  rw [State.insertWaiting, State.seat_raise]
  exact State.seat_setPlace_of (u := { s with waiting := s.waiting.insertIdx i { seat := n, sweep := k } }) rfl _ _ h1 h2

theorem State.insertWaiting_seat_ne (s : State) {n m : Nat} (k i : Nat) (h : m ≠ n) :
    (s.insertWaiting n k i).seat m = s.seat m := by
  rw [State.insertWaiting, State.seat_raise, State.seat_setPlace_ne _ _ _ h]
  exact State.seat_congr rfl m

/-! ## Fill (R88) -/

/-- A fill either does nothing, or grants from the head; the modes and floors in which it does nothing. -/
theorem State.fill_of_not_fills (s : State) (h : s.fills = false) : s.fill = s := by simp [State.fill, h]

/-- A fill of an empty list does nothing. -/
theorem State.fill_of_empty (s : State) (h : s.waiting = []) : s.fill = s := by
  unfold State.fill
  split
  · simp [h, State.grantHeads]
  · rfl

/-- A fill without room does nothing. -/
theorem State.fill_of_no_room (s : State) (h : s.room = none) : s.fill = s := by
  unfold State.fill
  split
  · cases hw : s.waiting with
    | nil => simp [State.grantHeads]
    | cons e rest => simp [State.grantHeads, hw, h]
  · rfl

/-- The room a Grant tests is an ordinary channel that is FREE (R78). -/
theorem State.room_free {s : State} {c : Chan} (h : s.room = some c) :
    c.isOrdinary = true ∧ (s.chan c).state = .free ∧ s.belowMaxLive = true := by
  unfold State.room at h
  split at h
  · next hb =>
    have hf := List.find?_some h
    have hm := List.mem_of_find?_eq_some h
    exact ⟨mem_ordinaryChans.mp hm, by simpa using hf, hb⟩
  · cases h

/-! ## Dispatch (R164) -/

/-- A directive that is due is taken by its owner. -/
theorem State.dispatch_due {s : State} {tag : Byte} {d : Directive} {rest : List Entry} (h : s.Dispatching tag d rest)
    (owner : State → Byte → Directive → State) : s.dispatch d.kind owner = owner (s.withBuffer rest) tag d := by
  obtain ⟨hr, e, hb, hc, hs, ht, hk, ho⟩ := h
  subst ht
  simp [State.dispatch, State.oldest, hb, hc, hs, hk, ho, hr, State.withBuffer]

/-- A directive refused at decoding is answered REFUSED and nothing else happens. -/
theorem State.dispatch_refused {s : State} {k : Nat} {tag : Byte} {r : Reason} {rest : List Entry}
    (h : s.DispatchingRefused k tag r rest) (owner : State → Byte → Directive → State) :
    s.dispatch k owner = (s.withBuffer rest).reply tag (.refused r) := by
  obtain ⟨hr, e, hb, hc, hs, ht, hk, ho⟩ := h
  subst ht
  simp [State.dispatch, State.oldest, hb, hc, hs, hk, ho, hr, State.withBuffer]

/-! ## Presentation (R51) -/

/-- A slot gives an action only of its own event. -/
theorem Seat.derive_comesFrom {t : Seat} {ev : KeyEvent} {a : KeyAct} (h : t.derive ev = some a) : a.comesFrom ev = true := by
  have hu : ∀ b, unlessFlagged t b = some a → a = b := fun b hb => by
    unfold unlessFlagged at hb; split at hb <;> simp_all
  have hc : ∀ b, t.chairEvent b = some a → a = b := fun b hb => by
    unfold Seat.chairEvent at hb; split at hb <;> [exact hu b hb; cases hb]
  unfold Seat.derive at h
  split at h
  swap
  · cases h
  cases ev <;> simp only at h
  case talk press =>
    unfold Seat.talkEvent at h
    split at h
    · cases h
    · obtain ⟨b, hb, hb'⟩ := Option.bind_eq_some_iff.mp h
      rw [hu b hb']
      unfold talkAct at hb
      split at hb <;> cases hb <;> rfl
  case priorityLevel =>
    split at h
    · rw [hc _ h]; rfl
    · cases h
  all_goals rw [hc _ h]; rfl

/-- The next slot's action is taken with its slot gone from the presentation, and the presentation goes on. -/
theorem State.present_due {s : State} {k n : Nat} {ev : KeyEvent} {a : KeyAct} {rest : List KeySlot}
    (h : s.Presenting k n ev a rest) (answer : State → Nat → State) :
    s.present n a answer = (answer (s.keepSlots k rest) k).closePresentation := by
  have hd : s.deriveSlot { seat := n, event := ev } = some a := h.2
  have hs : KeySlot.isOf { seat := n, event := ev } n a = true := by simp [KeySlot.isOf, Seat.derive_comesFrom h.2]
  simp [State.present, h.1, hs, State.canReach, State.takeSlot, hd]

/-- A key command whose slot is the next one and gives no action spends it. -/
theorem State.present_spent {s : State} {k n : Nat} {ev : KeyEvent} {a : KeyAct} {rest : List KeySlot}
    (h : s.owed.actions = some { sweep := k, slots := { seat := n, event := ev } :: rest }) (hd : (s.seat n).derive ev = none)
    (ha : a.comesFrom ev = true) (answer : State → Nat → State) :
    s.present n a answer = ((s.keepSlots k rest).spend { seat := n, event := ev }).closePresentation := by
  have hd' : s.deriveSlot { seat := n, event := ev } = none := hd
  have hs : KeySlot.isOf { seat := n, event := ev } n a = true := by simp [KeySlot.isOf, ha]
  simp [State.present, h, hs, State.canReach, State.takeSlot, hd']

/-- A key command with no slot to come changes nothing. -/
theorem State.present_absent {s : State} {n : Nat} {a : KeyAct} {p : Presentation} (h : s.owed.actions = some p)
    (hn : ∀ j ∈ p.slots, j.isOf n a = false) (answer : State → Nat → State) : s.present n a answer = s := by
  have ht : p.slots.takeWhile (fun k => !k.isOf n a) = p.slots := by
    rw [List.takeWhile_eq_self_iff]; simpa using hn
  simp [State.present, h, ht]

/-- Everything a key command can do: nothing, or its slot is reached, the slots before it giving no action and being spent. -/
theorem State.present_cases (s : State) (n : Nat) (a : KeyAct) (answer : State → Nat → State) :
    s.present n a answer = s ∨ ∃ p before k rest, s.owed.actions = some p ∧ p.slots = before ++ k :: rest ∧
      k.isOf n a = true ∧ (∀ j ∈ before, j.isOf n a = false ∧ s.deriveSlot j = none) ∧ s.canReach a k = true ∧
      s.present n a answer = (before.foldl State.spend s).takeSlot p.sweep k rest answer := by
  unfold State.present
  split
  · exact .inl rfl
  · next p hp =>
    simp only
    generalize hb : p.slots.takeWhile (fun k => !k.isOf n a) = before
    have hsplit : p.slots = before ++ p.slots.dropWhile (fun k => !k.isOf n a) := by
      rw [← hb, List.takeWhile_append_dropWhile]
    have hdrop : p.slots.drop before.length = p.slots.dropWhile (fun k => !k.isOf n a) := by
      conv => lhs; rw [hsplit]
      simp
    rw [hdrop]
    split
    · exact .inl rfl
    · next k rest hk =>
      split
      · next hc =>
        simp only [Bool.and_eq_true, List.all_eq_true, Option.isNone_iff_eq_none] at hc
        refine .inr ⟨p, before, k, rest, hp, by rw [hsplit, hk], ?_, fun j hj => ⟨?_, hc.1 j hj⟩, hc.2, rfl⟩
        · have := List.head?_dropWhile_not (fun k => !KeySlot.isOf k n a) p.slots
          simpa [hk] using this
        · rw [← hb] at hj
          simpa using List.mem_takeWhile_imp hj
      · exact .inl rfl

/-- The owed actions are all that `keepSlots` changes. -/
theorem State.keepSlots_eq (s : State) (k : Nat) (rest : List KeySlot) :
    s.keepSlots k rest = s.setOwed { s.owed with actions := some { sweep := k, slots := rest } } := rfl

/-- R11: the next loss breaks the trunk exactly when it is UP with 24 losses in a row behind it. -/
theorem State.lossBreaks_iff (s : State) : s.lossBreaks = true ↔ s.trunk = .up ∧ 24 ≤ s.lostRun := by
  simp [State.lossBreaks, Config.lostRunLimit]

/-- R10, R11: a loss that breaks nothing raises the run count and ends the search for discarded records. -/
theorem State.declareLost_of_not_breaks {s : State} (k : Nat) (h : s.lossBreaks = false) :
    s.declareLost k = { s with lostRun := min (s.lostRun + 1) 25, discarded := [] } := by
  simp [State.declareLost, h, Config.lostRunLimit]

/-! ## The records a RESTART discarded (R8, R16) -/

/-- What `dropWhile` leaves begins at the first element that fails the test. -/
theorem dropWhile_eq_cons {α : Type} {p : α → Bool} {l : List α} {d : α} {later : List α} :
    l.dropWhile p = d :: later ↔ ∃ early, l = early ++ d :: later ∧ p d = false ∧ ∀ x ∈ early, p x = true := by
  induction l with
  | nil => simp
  | cons a l ih =>
    cases ha : p a with
    | true =>
      rw [List.dropWhile_cons_of_pos ha, ih]
      constructor
      · rintro ⟨early, rfl, h⟩; exact ⟨a :: early, rfl, h.1, by simpa [ha] using h.2⟩
      · rintro ⟨_ | ⟨b, early⟩, h, hd, he⟩
        · simp only [List.nil_append, List.cons.injEq] at h; simp [← h.1, ha] at hd
        · simp only [List.cons_append, List.cons.injEq] at h
          exact ⟨early, h.2, hd, fun x hx => he x (List.mem_cons_of_mem _ hx)⟩
    | false =>
      rw [List.dropWhile_cons_of_neg (by simp [ha])]
      constructor
      · intro h; cases h; exact ⟨[], rfl, ha, by simp⟩
      · rintro ⟨_ | ⟨b, early⟩, h, hd, he⟩
        · exact h
        · simp only [List.cons_append, List.cons.injEq] at h
          simpa [← h.1, ha] using he b List.mem_cons_self

/-- R8, R16: the discarded record that a candidate may be is the first remembered one that it may be. -/
theorem State.underWay_cons (s : State) (got : List Byte) (d : Discarded) (later : List Discarded) :
    s.underWay got = d :: later ↔
      ∃ early, s.discarded = early ++ d :: later ∧ d.MayBe got ∧ ∀ x ∈ early, ¬x.MayBe got := by
  simp only [State.underWay, dropWhile_eq_cons, decide_eq_true_eq, decide_eq_false_iff_not, not_not]

/-- R8, R16: a candidate is taken for no discarded record where it may be none that is remembered. -/
theorem State.underWay_nil (s : State) (got : List Byte) : s.underWay got = [] ↔ ∀ d ∈ s.discarded, ¬d.MayBe got := by
  simp only [State.underWay, List.dropWhile_eq_nil_iff, decide_eq_true_eq]

/-- R8, R16: the discarded record that ends where the candidate stands is the first remembered one of its number and length. -/
theorem State.cutHere_cons (s : State) (got : List Byte) (d : Discarded) (later : List Discarded) :
    s.cutHere got = d :: later ↔ ∃ early, s.discarded = early ++ d :: later ∧
      (4 ≤ got.length ∧ d.number = wordAt got.reverse 2 ∧ d.bytes = got.length) ∧
      ∀ x ∈ early, ¬(4 ≤ got.length ∧ x.number = wordAt got.reverse 2 ∧ x.bytes = got.length) := by
  simp only [State.cutHere, dropWhile_eq_cons, decide_eq_true_eq, decide_eq_false_iff_not, not_not]

/-- R8, R16: no discarded record ends where the candidate stands. -/
theorem State.cutHere_nil (s : State) (got : List Byte) :
    s.cutHere got = [] ↔ ∀ d ∈ s.discarded, ¬(4 ≤ got.length ∧ d.number = wordAt got.reverse 2 ∧ d.bytes = got.length) := by
  simp only [State.cutHere, List.dropWhile_eq_nil_iff, decide_eq_true_eq]

/-- The floor's agreement does not look at the input buffer, the settings or the steps due. -/
theorem State.FloorAgrees.of_same {s t : State} (h : s.FloorAgrees) (e1 : t.seats = s.seats := by rfl)
    (e2 : t.agenda = s.agenda := by rfl) (e3 : t.floor = s.floor := by rfl) (e4 : t.waiting = s.waiting := by rfl)
    (e5 : t.speakers = s.speakers := by rfl) (e6 : t.channels = s.channels := by rfl) :
    t.FloorAgrees := by
  have hs : ∀ n, t.seat n = s.seat n := fun n => by cases n <;> simp [State.seat, e1]
  have hc : ∀ c, t.chan c = s.chan c := fun c => by simp [State.chan, e6]
  constructor
  · simpa [e1] using h.seats
  · simpa [e2] using h.agenda
  · simpa [e2, e3] using h.closed
  · simpa [e3, hc] using h.held
  · simpa [hc] using h.untimed
  · simpa [State.SeatAgrees, hs, hc, e4] using h.places
  · simpa [State.ChannelAgrees, hc] using h.channels
  · simpa [hc, e5] using h.speakers
  · simpa [e5] using h.speakersOnce
  · simpa [e4] using h.waitingOnce
  · simpa [e3, e4, e5] using h.empty

end Sys2Proof.Machine
end

