-- ==== Sys2Proof/WellFormed.lean ====
section
/-! DEFINITION. What a well-formed command is: its frames have the lengths of R17, its seats and channels the ranges the
manual gives.
An ill-formed command names an event the part cannot have; the meanings are total on it all the same
(DESIGN CHOICE, log entry 16). -/

namespace Sys2Proof

/-- A seat number is within 1 to 200 (00_scope 0.6). -/
def seatInRange (n : Nat) : Bool := 1 ≤ n && n ≤ Config.seatCount

/-- A frame that arrived has the bytes its layout gives it (R17). -/
def frameLength (n : Nat) : Option (List Byte) → Bool
  | none => true
  | some b => b.length == n

/-- The well-formed commands: a returned frame has 45 bytes, a head frame 8, a seat number lies within 1 to 200,
and a timer belongs to an ordinary channel, since channel P is never timed (R105). -/
def Instr.wellFormed : Instr → Bool
  | .framePeriod returned head =>
    frameLength Config.trunkFrameBytes returned && frameLength Config.headInBytes head
  | .lockoutExpiry seat => seatInRange seat
  | .expired ch => ch != .p
  | .timeOver ch => ch != .p
  | .request seat => seatInRange seat
  | .withdraw seat => seatInRange seat
  | .nextAction seat => seatInRange seat
  | .cancelAction seat => seatInRange seat
  | .priorityHeld seat => seatInRange seat
  | .priorityReleased seat => seatInRange seat
  | .pinReset | .headLinkLock | .headLinkUnlock | .sweepIntervalStart _ | .blinkPhaseToggle | .lostSweep | .trunkDown
  | .sweepReturned | .seatLost | .auditSweep | .channelFreed _ | .messageHeader | .directiveComplete
  | .skipEntryDispatch | .unknownKind | .loadSeats | .readSeats | .setGeneral | .stageItem | .advanceItem
  | .flushAgenda | .grant | .revoke | .enqueue | .remove | .next | .cancelAll | .extend | .clearFlag | .readFloor
  | .restart | .messageStart | .messageSent => true

end Sys2Proof
end

