-- ==== Sys2Proof/Laws/PerInstr.lean ====
section
/-! SUPPORT. What holds of every command as syntax, one lemma per command. -/

namespace Sys2Proof.Laws

/-- The seat a command names, if it names one. -/
def seatOf : Instr → Option Nat
  | .lockoutExpiry n => some n
  | .request n => some n
  | .withdraw n => some n
  | .nextAction n => some n
  | .cancelAction n => some n
  | .priorityHeld n => some n
  | .priorityReleased n => some n
  | .pinReset | .framePeriod _ _ | .headLinkLock | .headLinkUnlock | .sweepIntervalStart _ | .blinkPhaseToggle
  | .expired _ | .timeOver _ | .lostSweep | .trunkDown | .sweepReturned | .seatLost | .auditSweep |
  .channelFreed _ | .messageHeader | .directiveComplete | .skipEntryDispatch | .unknownKind | .loadSeats |
  .readSeats | .setGeneral | .stageItem | .advanceItem | .flushAgenda | .grant | .revoke | .enqueue | .remove
  | .next | .cancelAll | .extend | .clearFlag | .readFloor | .restart | .messageStart | .messageSent => none

/-- 00_scope 0.6: a well-formed command that names a seat names one of seats 1 to 200. -/
def SeatNamed.Statement (i : Instr) : Prop :=
  i.wellFormed = true → ∀ n, seatOf i = some n → 1 ≤ n ∧ n ≤ 200

/-- A seat number in range is one of 1 to 200. -/
theorem seatInRange_iff (n : Nat) : seatInRange n = true ↔ 1 ≤ n ∧ n ≤ 200 := by
  simp [seatInRange, Config.seatCount]

theorem SeatNamed.pinReset : SeatNamed.Statement .pinReset := fun _ _ hm => by cases hm
theorem SeatNamed.framePeriod (r h : Option (List Byte)) : SeatNamed.Statement (.framePeriod r h) := fun _ _ hm => by cases hm
theorem SeatNamed.headLinkLock : SeatNamed.Statement .headLinkLock := fun _ _ hm => by cases hm
theorem SeatNamed.headLinkUnlock : SeatNamed.Statement .headLinkUnlock := fun _ _ hm => by cases hm
theorem SeatNamed.sweepIntervalStart (o : IntervalOrder) : SeatNamed.Statement (.sweepIntervalStart o) := fun _ _ hm => by cases hm
theorem SeatNamed.blinkPhaseToggle : SeatNamed.Statement .blinkPhaseToggle := fun _ _ hm => by cases hm
theorem SeatNamed.lockoutExpiry (n : Nat) : SeatNamed.Statement (.lockoutExpiry n) := fun h m hm => by
  cases hm; exact (seatInRange_iff n).mp h
theorem SeatNamed.expired (c : Chan) : SeatNamed.Statement (.expired c) := fun _ _ hm => by cases hm
theorem SeatNamed.timeOver (c : Chan) : SeatNamed.Statement (.timeOver c) := fun _ _ hm => by cases hm
theorem SeatNamed.lostSweep : SeatNamed.Statement .lostSweep := fun _ _ hm => by cases hm
theorem SeatNamed.trunkDown : SeatNamed.Statement .trunkDown := fun _ _ hm => by cases hm
theorem SeatNamed.sweepReturned : SeatNamed.Statement .sweepReturned := fun _ _ hm => by cases hm
theorem SeatNamed.seatLost : SeatNamed.Statement .seatLost := fun _ _ hm => by cases hm
theorem SeatNamed.request (n : Nat) : SeatNamed.Statement (.request n) := fun h m hm => by
  cases hm; exact (seatInRange_iff n).mp h
theorem SeatNamed.withdraw (n : Nat) : SeatNamed.Statement (.withdraw n) := fun h m hm => by
  cases hm; exact (seatInRange_iff n).mp h
theorem SeatNamed.nextAction (n : Nat) : SeatNamed.Statement (.nextAction n) := fun h m hm => by
  cases hm; exact (seatInRange_iff n).mp h
theorem SeatNamed.cancelAction (n : Nat) : SeatNamed.Statement (.cancelAction n) := fun h m hm => by
  cases hm; exact (seatInRange_iff n).mp h
theorem SeatNamed.priorityHeld (n : Nat) : SeatNamed.Statement (.priorityHeld n) := fun h m hm => by
  cases hm; exact (seatInRange_iff n).mp h
theorem SeatNamed.priorityReleased (n : Nat) : SeatNamed.Statement (.priorityReleased n) := fun h m hm => by
  cases hm; exact (seatInRange_iff n).mp h
theorem SeatNamed.auditSweep : SeatNamed.Statement .auditSweep := fun _ _ hm => by cases hm
theorem SeatNamed.channelFreed (c : Chan) : SeatNamed.Statement (.channelFreed c) := fun _ _ hm => by cases hm
theorem SeatNamed.messageHeader : SeatNamed.Statement .messageHeader := fun _ _ hm => by cases hm
theorem SeatNamed.directiveComplete : SeatNamed.Statement .directiveComplete := fun _ _ hm => by cases hm
theorem SeatNamed.skipEntryDispatch : SeatNamed.Statement .skipEntryDispatch := fun _ _ hm => by cases hm
theorem SeatNamed.unknownKind : SeatNamed.Statement .unknownKind := fun _ _ hm => by cases hm
theorem SeatNamed.loadSeats : SeatNamed.Statement .loadSeats := fun _ _ hm => by cases hm
theorem SeatNamed.readSeats : SeatNamed.Statement .readSeats := fun _ _ hm => by cases hm
theorem SeatNamed.setGeneral : SeatNamed.Statement .setGeneral := fun _ _ hm => by cases hm
theorem SeatNamed.stageItem : SeatNamed.Statement .stageItem := fun _ _ hm => by cases hm
theorem SeatNamed.advanceItem : SeatNamed.Statement .advanceItem := fun _ _ hm => by cases hm
theorem SeatNamed.flushAgenda : SeatNamed.Statement .flushAgenda := fun _ _ hm => by cases hm
theorem SeatNamed.grant : SeatNamed.Statement .grant := fun _ _ hm => by cases hm
theorem SeatNamed.revoke : SeatNamed.Statement .revoke := fun _ _ hm => by cases hm
theorem SeatNamed.enqueue : SeatNamed.Statement .enqueue := fun _ _ hm => by cases hm
theorem SeatNamed.remove : SeatNamed.Statement .remove := fun _ _ hm => by cases hm
theorem SeatNamed.next : SeatNamed.Statement .next := fun _ _ hm => by cases hm
theorem SeatNamed.cancelAll : SeatNamed.Statement .cancelAll := fun _ _ hm => by cases hm
theorem SeatNamed.extend : SeatNamed.Statement .extend := fun _ _ hm => by cases hm
theorem SeatNamed.clearFlag : SeatNamed.Statement .clearFlag := fun _ _ hm => by cases hm
theorem SeatNamed.readFloor : SeatNamed.Statement .readFloor := fun _ _ hm => by cases hm
theorem SeatNamed.restart : SeatNamed.Statement .restart := fun _ _ hm => by cases hm
theorem SeatNamed.messageStart : SeatNamed.Statement .messageStart := fun _ _ hm => by cases hm
theorem SeatNamed.messageSent : SeatNamed.Statement .messageSent := fun _ _ hm => by cases hm

end Sys2Proof.Laws
end

