-- ==== Sys2Proof/Tests/Slice0.lean ====
section
/-! SUPPORT. Tests of the model, in three parts: the well-formedness checks, each on a term it refuses; small tests of one step
or operation, with the values the manual's tables and examples give; and, for each statement with hypotheses, concrete states
that meet them, clause by clause. -/

namespace Sys2Proof.Tests

open Sys2Proof.Machine

set_option Elab.async false

/-! ## Well-formed commands -/

theorem test_frame_lengths_accepted :
    (Instr.framePeriod (some (List.replicate 45 0)) (some (List.replicate 8 0))).wellFormed = true := by decide

theorem test_short_returned_frame_refused : (Instr.framePeriod (some (List.replicate 44 0)) none).wellFormed = false := by
  decide

theorem test_long_head_frame_refused : (Instr.framePeriod none (some (List.replicate 9 0))).wellFormed = false := by decide

theorem test_seat_numbers_refused :
    (Instr.lockoutExpiry 0).wellFormed = false ∧ (Instr.request 0).wellFormed = false ∧
      (Instr.withdraw 201).wellFormed = false ∧ (Instr.nextAction 201).wellFormed = false ∧
      (Instr.cancelAction 0).wellFormed = false ∧ (Instr.priorityHeld 201).wellFormed = false ∧
      (Instr.priorityReleased 0).wellFormed = false ∧ (Instr.request 200).wellFormed = true := by decide

theorem test_priority_timer_refused :
    (Instr.expired .p).wellFormed = false ∧ (Instr.timeOver .p).wellFormed = false ∧ (Instr.expired .c8).wellFormed = true := by
  decide

theorem test_no_word_spells_a_command : decodeTableWord 8 7 = none ∧ State.reset.withFetchWord 8 7 = State.reset := by
  decide +kernel

/-! ## A small chamber -/

/-- A QUEUED context: one speaker, four waiting, OBSERVER not admitted, 60 s with a warning at 15 s. -/
def plain : Context :=
  { item := 7, mode := .queued, maxLive := 1, listLimit := 4,
    admitted := { delegate := true, chair := true, guest := true, observer := false }, chairFirst := false, limit := 60,
    chairTimed := false, warningLead := 15, expiry := .revoke, batch := 2, duckDepth := 16384, priorityEnd := .resume,
    suspendWhileHeld := true, carryFloor := true }

/-- An enabled, present seat. -/
def seated (cls : SeatClass) : Seat :=
  { Seat.reset with config := { enabled := true, cls := cls, keyAction := .push, level := 32768 }, present := true }

/-- The first five seats of the chamber: a LIVE delegate, a WAITING one, two chairs and an IDLE delegate. -/
def firstSeats : List Seat :=
  [{ seated .delegate with place := .live, bound := some .c1 }, { seated .delegate with place := .waiting }, seated .chair,
   seated .chair, seated .delegate]

/-- Seat 1 speaks on channel 1, seat 2 waits, seats 3 and 4 are chairs, seat 5 is IDLE. -/
def chamber : State :=
  { State.reset with
    trunk := .up, link := .locked, frame := 10, agenda := [plain], floor := .opened,
    seats := firstSeats ++ List.replicate 195 Seat.reset,
    waiting := [{ seat := 2, sweep := 5 }], speakers := [{ chan := .c1, seat := 1 }],
    channels := { PerChan.all Channel.reset with
      c1 := { state := .live, seat := some 1, remaining := some 30000, warned := false, held := 0 } } }

/-- The chamber while the chair at seat 3 holds the intervention. -/
def heldChamber : State :=
  { chamber with
    floor := .held,
    seats := chamber.seats.set 2 { seated .chair with place := .live, bound := some .p },
    channels := { chamber.channels with
      p := { state := .live, seat := some 3, remaining := none, warned := false, held := 0 } } }

/-- The chamber with nobody on the floor. -/
def emptyChamber : State :=
  { chamber with
    seats := [seated .delegate, seated .delegate, seated .chair, seated .chair, seated .delegate] ++
      List.replicate 195 Seat.reset,
    waiting := [], speakers := [], channels := PerChan.all Channel.reset }

/-- `s` under a context changed by `f`. -/
def under (s : State) (f : Context → Context) : State := { s with agenda := s.agenda.map f }

/-- `s` with a directive of a kind and body as the only entry of its input buffer, with tag 9. -/
def sent (s : State) (kind : Nat) (body : List Byte) : State :=
  { s with buffer := [{ kind := BitVec.ofNat 8 kind, tag := 9, len := BitVec.ofNat 8 body.length, skip := false,
                        body := body, complete := true, decoded := none }] }

/-- A directive sent as bytes is dispatched as what they decode to. -/
theorem sent_dispatching {s : State} {kind : Nat} {body : List Byte} {d : Directive}
    (h : s.replies.length < 4 ∧ (BitVec.ofNat 8 kind).toNat = d.kind ∧
      decodeMessage (BitVec.ofNat 8 kind) (BitVec.ofNat 8 body.length) body = .accepted d := by decide +kernel) :
    (sent s kind body).Dispatching 9 d [] :=
  ⟨h.1, _, rfl, rfl, rfl, rfl, h.2.1, h.2.2⟩

/-- `s` with an event of seat `n` as the only slot of returned sweep 5. -/
def asking (s : State) (n : Nat) (ev : KeyEvent) : State :=
  s.setOwed { s.owed with actions := some { sweep := 5, slots := [{ seat := n, event := ev }] } }

/-- `s` with the PRIORITY key of seat `n` held and armed. -/
def armed (s : State) (n : Nat) : State :=
  s.updSeat n fun t => { t with armed := true, keys := { t.keys with priority := { held := true, agree := 0 } } }

/-- The state a command answers, or the state it was taken in. -/
def after (c : Instr) (s : State) : State :=
  match exec c s with
  | .next t => t
  | .fault _ => s
  | .refused _ => s

theorem chamber_agrees : chamber.FloorAgrees := by constructor <;> decide +kernel

theorem heldChamber_agrees : heldChamber.FloorAgrees := by constructor <;> decide +kernel

theorem chamber_fits : chamber.FloorFits where
  seats := by decide +kernel
  waiting := fun c h => by cases h; decide +kernel
  speakers := fun c h => by cases h; decide +kernel
  absent := by decide +kernel
  armed := by decide +kernel

/-! ## Small tests, with the manual's values -/

/-- The table of R146 and the halves of section 8.8. -/
theorem test_gate_rounds_halves_up :
    gate 1001 16384 = 501 ∧ gate (-1001) 16384 = -500 ∧ gate 8388607 1 = 256 ∧ gate (-8388608) 1 = -256 ∧
      gate (-8388608) 32768 = -8388608 ∧ gate 1 16384 = 1 ∧ gate (-1) 16384 = 0 := by decide +kernel

/-- Section 8.8: a mix within range, and one that saturates. -/
theorem test_mix_saturates :
    mixOf { PerChan.all 0 with c1 := 6000000, c2 := 2000000, p := -500 } = 7999500 ∧
      mixOf { PerChan.all 0 with c1 := 6000000, c2 := 2000000, c3 := 700000, p := -500 } = 8388607 := by decide +kernel

/-- The chamber of section 8.8's duck: level 30,000 on channel 1 at gain `g`, duck depth 8,192, the floor HELD. -/
def ducked (g : Nat) : State :=
  { under heldChamber fun c => { c with duckDepth := 8192 } with
    seats := heldChamber.seats.modify 0 fun t => { t with config := { t.config with level := 30000 } },
    gains := { PerChan.all Gain.reset with c1 := { current := g, target := 30000 } } }

/-- Section 8.8: 30,000 to 29,488, and 7,984 to 7,500, where the duck stops on its target. -/
theorem test_duck_ramps :
    (after (.framePeriod none none) (ducked 30000)).gain .c1 = { current := 29488, target := 7500 } ∧
      (after (.framePeriod none none) (ducked 7984)).gain .c1 = { current := 7500, target := 7500 } := by decide +kernel

/-- The table of R108. -/
theorem test_durations :
    duration 49 = 0 ∧ duration 60000 = 1200 ∧ duration 12340 = 246 ∧ duration 3276749 = 65534 ∧ duration 3276750 = 65535 := by
  decide +kernel

/-- The chamber with `r` sweep intervals and a warned mark on channel 1. -/
def timed (r : Nat) (warned : Bool) : State :=
  chamber.setChan .c1 { chamber.chan .c1 with remaining := some r, warned := warned }

/-- The first and the third row of the examples of R120. -/
theorem test_extend_clears_warned :
    ((after .extend (sent (timed 7500 true) 13 [1, 0, 30])).chan .c1).remaining = some 22500 ∧
      ((after .extend (sent (timed 7500 true) 13 [1, 0, 30])).chan .c1).warned = false ∧
      ((after .extend (sent (timed 0 true) 13 [1, 0, 60])).chan .c1).remaining = some 30000 := by decide +kernel

/-- The second and the fifth row: the mark at or below the lead stands; 4,000 s is taken as 3,600 s, and the sum is capped. -/
theorem test_extend_clamps :
    ((after .extend (sent (timed 3000 true) 13 [1, 0, 5])).chan .c1).warned = true ∧
      ((after .extend (sent (timed 40000 false) 13 [1, 0x0F, 0xA0])).chan .c1).remaining = some 1800000 := by decide +kernel

/-- R5: the phase toggles with the 125th sweep. -/
theorem test_blink_toggles :
    (after .blinkPhaseToggle (chamber.setOwed { Owed.reset with blink := true })).blinkOn = false := by decide +kernel

/-- R13: the 48th consecutive in-step frame makes the lock due; the first missing one makes the unlock due. -/
theorem test_lock_counts :
    (after (.framePeriod none (some (List.replicate 8 0))) { chamber with link := .unlocked, lockCount := 47 }).lockCount = 48 ∧
      (after (.framePeriod none none) chamber).owed.unlock = true := by decide +kernel

/-- R17: a HELD floor's emission carries LIVE on channel 1, WAITING and PRIORITY on channel P for seats 1 to 3. -/
theorem test_emission_bytes :
    ((after (.sweepIntervalStart .emissionFirst) { heldChamber with frame := 96 }).stream.take 16) =
      [0xB4, 1, 0, 0, 2, 1, 0, 0, 1, 0, 0, 0, 4, 9, 0, 0] := by decide +kernel

/-- R20, R161: an unknown kind, a wrong length and a seat out of range, in the order of the checks. -/
theorem test_decoding :
    decodeMessage 0x11 1 [5] = .refused .unknownKind ∧ decodeMessage 7 2 [5, 0] = .refused .badLength ∧
      decodeMessage 7 1 [201] = .refused .badValue ∧ decodeMessage 7 1 [200] = .accepted (.grant 200) ∧
      decodeMessage 1 7 [3, 1, 1, 1, 0, 0x80, 1] =
        .accepted (.loadSeats 3 [{ enabled := true, cls := .chair, keyAction := .push, level := 32768 }]) := by decide +kernel

/-- R161: the bytes of a notice and of a refusal. -/
theorem test_message_bytes :
    (Notice.ended 5 .c2 .expired 300).bytes = [0x41, 0, 5, 5, 2, 19, 1, 44] ∧
      Reply.bytes { tag := 21, body := .refused .overrun } = [0x81, 21, 1, 4] := by decide +kernel

/-- R16, R170: RESTART queues its reply alone and leaves the lock. -/
theorem test_restart_replies :
    (after .restart (sent chamber 16 [])).replies = [{ tag := 9, body := .done }] ∧
      (after .restart (sent chamber 16 [])).link = .locked ∧ (after .restart (sent chamber 16 [])).trunk = .down := by
  decide +kernel

/-- R79: the pointer turns from 200 to 1 when the presentation is over. -/
theorem test_rotation_turns :
    (after (.nextAction 3) { asking heldChamber 4 .nextPress with rotation := 200 }).rotation = 200 ∧
      (after (.nextAction 4) { asking heldChamber 4 .nextPress with rotation := 200 }).rotation = 1 := by decide +kernel

/-- R51: an IDLE HOLD seat's TALK release gives no action while it is IDLE, and a withdraw once a GRANT has come between. -/
theorem test_slot_waits_for_the_state :
    let holding := { emptyChamber with seats := emptyChamber.seats.modify 4 fun t =>
      { t with config := { t.config with keyAction := .hold } } }
    ((after (.withdraw 5) (asking holding 5 (.talk false))).owed.actions = none) ∧
      (after (.withdraw 5) (after .grant (sent (asking holding 5 (.talk false)) 7 [5]))).speakers = [] ∧
      (after .grant (sent (asking holding 5 (.talk false)) 7 [5])).speakers = [{ chan := .c1, seat := 5 }] := by decide +kernel

/-- R11: the 25th loss takes the trunk DOWN, with channel 1 RELEASING; the 24th leaves it UP. -/
theorem test_trunk_breaks_at_25 :
    (after .lostSweep { chamber with awaiting := some 8, frame := 96, lostRun := 24 }).trunk = .down ∧
      ((after .lostSweep { chamber with awaiting := some 8, frame := 96, lostRun := 24 }).chan .c1).state = .releasing ∧
      (after .lostSweep { chamber with awaiting := some 8, frame := 96, lostRun := 23 }).trunk = .up := by decide +kernel

/-- R7, R33: the break changes neither command of a seat, and takes the speaker's accepted levels with its presence. -/
theorem test_break_keeps_commands :
    let s := { chamber with
      awaiting := some 8, frame := 96, lostRun := 24,
      seats := chamber.seats.modify 0 fun t => { t with
        lastSent := { lamp := .live, chan := some .c1 }, inFlight := { lamp := .warning, chan := some .c1 },
        keys := { t.keys with talk := { held := true, agree := 1 } } } }
    let t := (after .lostSweep s).seat 1
    t.lastSent = (s.seat 1).lastSent ∧ t.inFlight = (s.seat 1).inFlight ∧ t.keys = Keys.reset ∧ t.present = false := by
  decide +kernel

/-- The chamber with the blink toggle, the lockout of seat 5 and the timer of channel 1 due. -/
def due (s : State) : State :=
  { s with
    seats := s.seats.modify 4 fun t => { t with lockout := 1 },
    owed := { s.owed with blink := true, lockouts := [5], timers := [.c1] } }

/-- R65: a decrement due when a changeover makes its grant untimed stays due (log entry 14); taken then it changes nothing. -/
theorem test_decrement_survives_changeover :
    let s := { due (timed 1 false) with agenda := [plain, { plain with limit := 0 }] }
    let t := after .advanceItem (sent s 5 [])
    (t.chan .c1).remaining = none ∧ t.owed.timers = [.c1] ∧ (after (.expired .c1) t).chan .c1 = t.chan .c1 ∧
      (after (.expired .c1) t).owed.timers = [] := by decide +kernel

/-- R16: after a RESTART with 40 bytes of sweep 258 on the chain and none back, its header opens no candidate, and the 28 bytes
behind the first 12 are passed over. -/
theorem test_restart_disregards_record :
    let t := after .restart (sent { chamber with awaiting := some 258, stream := List.replicate 764 0 } 16 [])
    t.discarded = [{ number := 258, bytes := 40 }] ∧
      (after (.framePeriod (some (List.replicate 33 0 ++ [0xB4, 1, 1, 2, 0, 0, 0, 0, 0, 0, 0, 0])) none)
        { t with frame := 1 }).scan = .passing 28 := by decide +kernel

/-- The first `n` bytes of a record of sweep 0. -/
def sweepZero (n : Nat) : List Byte := [0xB4, 1, 0, 0] ++ List.replicate (n - 4) 5

/-- R8, R16: a RESTART in sweep 0 with 60 bytes on the chain and none back. The header of the new sweep 0 opens a candidate; after 60
bytes a marker begins another, and a lamp command goes on with the one under way. -/
theorem test_restart_in_sweep_zero :
    let t := after .restart (sent { chamber with awaiting := some 0, stream := List.replicate 744 0 } 16 [])
    let u := { t with frame := 1, awaiting := some 0 }
    let back (s : State) (w : List Byte) := after (.framePeriod (some (List.replicate 33 0 ++ w)) none) s
    t.discarded = [{ number := 0, bytes := 60 }] ∧ (back u (sweepZero 12)).scan = .taking (sweepZero 12).reverse ∧
      (back { u with scan := .taking (sweepZero 60).reverse } (sweepZero 12)).scan = .taking (sweepZero 12).reverse ∧
      (back { u with scan := .taking (sweepZero 60).reverse } (List.replicate 12 5)).scan = .taking (sweepZero 72).reverse := by
  decide +kernel

/-- R17: byte 2 of an entry carries answered and live in its bits 0 and 1, byte 3 the four keys TALK, PRIORITY, NEXT, CANCEL in its
bits 0 to 3. -/
theorem test_up_half_bits :
    upHalvesOf [2, 1, 1, 1, 0, 0, 3, 2, 0, 0, 2, 4, 0, 0, 0, 8] =
      [{ answered := true, live := false, talk := true, priority := false, next := false, cancel := false },
       { answered := true, live := true, talk := false, priority := true, next := false, cancel := false },
       { answered := false, live := true, talk := false, priority := false, next := true, cancel := false },
       { answered := false, live := false, talk := false, priority := false, next := false, cancel := true }] := by decide

/-- R3, R17: a sample is sent most significant byte first, and channel P's slot of a returned frame is bytes 24 to 26. -/
theorem test_sample_layout :
    sampleBytes 0x010203 = [1, 2, 3] ∧
      (uplink (some (List.replicate 24 0 ++ [0xFF, 2, 3] ++ List.replicate 18 0))).get .p = 0xFF0203 ∧
      (uplink (some ([0, 0, 0, 4, 5, 6] ++ List.replicate 39 0))).get .c2 = 0x040506 := by decide

/-- R165, R166: the frame period that sends a notice's last byte leaves its queue without it, or with NOTICES_LOST in the room it made. -/
theorem test_last_byte_leaves_queue :
    let sending (rest : List Byte) := { chamber with
      notices := List.replicate 32 (Notice.trunkUp 5), sending := some { source := .notice, rest := rest } }
    let t (s : State) := after (.framePeriod none (some (List.replicate 8 0))) s
    (t (sending [7])).notices.length = 31 ∧ (t (sending [7, 8, 9])).notices.length = 32 ∧
      (t { sending [7, 8] with overrun := true, lostCount := 3 }).notices.getLast? = some (.noticesLost 3) ∧
      (t { sending [7, 8] with overrun := true, lostCount := 3 }).overrun = false := by decide +kernel

/-- R46: the held and armed PRIORITY of a chair that the sweep is to lose is examined like that of any present seat: its priority-held can
come before its absence, which then ends the intervention, or find it absent. -/
theorem test_lost_chair_priority_held :
    let silent := armed { chamber with
      seats := chamber.seats.modify 2 fun t => { t with silence := 49 },
      owed := { Owed.reset with returned := some { sweep := 8, ups := [] } } } 3
    let t := after .sweepReturned silent
    t.owed.losses = [3] ∧ (after (.priorityHeld 3) t).floor = .held ∧
      (after .seatLost (after (.priorityHeld 3) t)).floor = .opened ∧
      (after (.priorityHeld 3) (after .seatLost t)).floor = .opened := by decide +kernel

/-! ## Witnesses: states that meet the statements' hypotheses -/

theorem witness_HeadLinkLocksAndUnlocks :
    ({ chamber with link := .unlocked, lockCount := 48 }.link = .unlocked ∧
      { chamber with link := .unlocked, lockCount := 48 }.lockCount = 48) ∧
      (chamber.setOwed { Owed.reset with unlock := true }).owed.unlock = true := by decide +kernel

/-- The clauses on a partly received message and on one partly sent, the header with exactly its three bytes free. -/
theorem witness_HeadLinkUnlock_clauses :
    (∀ k g l d, { chamber with rx := .body 3 .whole }.rx ≠ .header [k, g, l] d) ∧
      ({ sent chamber 4 (List.replicate 1018 0) with rx := .header [7, 1, 0] false }.rx = .header [7, 1, 0] false ∧
        { sent chamber 4 (List.replicate 1018 0) with rx := .header [7, 1, 0] false }.bytesHeld + 3 ≤ 1024) ∧
      (∀ m, { chamber with sending := some { source := .reply, rest := [1] } }.sending = some m → m.rest ≠ []) :=
  ⟨fun _ _ _ _ h => (by cases h), ⟨rfl, by decide +kernel⟩, fun m h => (by cases h; exact List.cons_ne_nil _ _)⟩

/-- Headers that leave nothing kept: one with a body, one that is to be dropped, and one that finds two bytes free. -/
theorem witness_HeadLinkUnlock_headers :
    ({ chamber with rx := .header [7, 1, 1] false }.rx = .header [7, 1, 1] false ∧ (1 : Byte) ≠ 0) ∧
      { chamber with rx := .header [7, 1, 0] true }.rx = .header [7, 1, 0] true ∧
      ({ sent chamber 4 (List.replicate 1019 0) with rx := .header [7, 1, 0] false }.rx = .header [7, 1, 0] false ∧
        1024 < { sent chamber 4 (List.replicate 1019 0) with rx := .header [7, 1, 0] false }.bytesHeld + 3) := by decide +kernel

/-- A frame period that begins an interval, one that finds a sweep's work due at an interval's first frame, with its next slot
giving an action and giving none, and one that finds a loss due. -/
theorem witness_FramePeriodTakesWhatIsDue :
    ({ chamber with frame := 96 }.LinkSettled ∧ { chamber with frame := 96 }.owed.freed = [] ∧
      { chamber with frame := 96 }.frame = 96) ∧
      ({ chamber with frame := 0, owed := { Owed.reset with lostSweep := some 8 } }.LinkSettled ∧
        { chamber with frame := 0, owed := { Owed.reset with lostSweep := some 8 } }.owed.actions = none) ∧
      ({ asking chamber 2 (.talk true) with frame := 0 }.LinkSettled ∧
        { asking chamber 2 (.talk true) with frame := 0 }.owed.lostSweep = none ∧
        (asking chamber 2 (.talk true)).owed.actions = some { sweep := 5, slots := [{ seat := 2, event := .talk true }] } ∧
        (chamber.seat 2).derive (.talk true) = some .withdraw) ∧
      ((chamber.seat 2).derive (.talk false) = none ∧ KeyAct.withdraw.comesFrom (.talk false) = true) := by decide +kernel

/-- The frame period's statements, LOCKED and UNLOCKED, in the first and the last frame of an interval and between. -/
theorem witness_FramePeriod :
    (chamber.FrameReady ∧ chamber.link = .locked ∧ { chamber with frame := 0 }.FrameReady) ∧
      ({ chamber with link := .unlocked, lockCount := 47, frame := 95 }.FrameReady ∧
        { chamber with link := .unlocked, lockCount := 47, frame := 95 }.link = .unlocked) := by decide +kernel

/-- The rows of the targets and the three cases of the ramp. -/
theorem witness_FramePeriodMovesGains :
    ((ducked 30000).FrameReady ∧ ((ducked 30000).chan .c2).state = .free ∧ ((ducked 30000).chan .c1).state = .live ∧
      ((ducked 30000).chan .c1).seat = some 1 ∧ (ducked 30000).active ≠ none ∧
      (7500 < ((ducked 30000).gain .c1).current) ∧ ((ducked 0).gain .c1).current < 7500 ∧
      ((ducked 7500).gain .c1).current = 7500) ∧
      ((after .revoke (sent chamber 8 [1])).chan .c1).state = .releasing ∧
      (after .revoke (sent chamber 8 [1])).FrameReady := by decide +kernel

/-- The chamber with a scan, sweep 0 awaited and the record of sweep 1 discarded after 20 bytes. -/
def scanning (x : Scan) : State :=
  { chamber with scan := x, awaiting := some 0, discarded := [{ number := 7, bytes := 804 }, { number := 1, bytes := 20 }] }

theorem scanning_ready (x : Scan) : (scanning x).FrameReady :=
  have h : chamber.FrameReady := by decide +kernel
  h

/-- A returned frame whose twelve stream bytes are `w`. -/
def carrying (w : List Byte) : List Byte := List.replicate 33 0 ++ w

/-- The same with the awaited number 0 remembered of a record cut off after 120 bytes. -/
def remembering (x : Scan) : State :=
  { scanning x with discarded := [{ number := 0, bytes := 120 }, { number := 1, bytes := 20 }] }

/-- Candidates that the frame does not complete, completes with the number awaited, and completes with another; at 792 and at
803 bytes. -/
theorem witness_CandidateCompletes :
    (carrying (List.replicate 12 0)).length = 45 ∧
      ((scanning (.taking (List.replicate 791 0))).scan = .taking (List.replicate 791 0) ∧ 791 + 12 < 804 ∧ 4 ≤ 791) ∧
      (∀ n ∈ [792, 803], n < 804 ∧ 804 ≤ n + 12 ∧
        wordAt (((List.replicate n (0 : Byte)).reverse ++ (carrying (List.replicate 12 0)).drop 33).take 804) 2 = 0 ∧
        wordAt (((List.replicate n (1 : Byte)).reverse ++ (carrying (List.replicate 12 0)).drop 33).take 804) 2 ≠ 0) ∧
      (∀ d ∈ (scanning .seeking).discarded, d.number ≠ 257 ∧ d.number ≠ 0) := by
  decide +kernel

/-- A candidate that may be the record remembered, one byte before it was cut off, and one that can be it no longer. -/
theorem witness_CandidateMayBeDiscarded :
    (remembering .seeking).discarded = [] ++ { number := 0, bytes := 120 } :: [{ number := 1, bytes := 20 }] ∧
      ({ number := 0, bytes := 120 } : Discarded).MayBe (sweepZero 119).reverse ∧
      ({ number := 0, bytes := 120 } : Discarded).MayBe [0xB4] ∧
      (∀ d ∈ (remembering .seeking).discarded, ¬d.MayBe (sweepZero 120).reverse) := by decide +kernel

/-- The marker after a remembered record, as the frame's first byte and as its last. -/
theorem witness_CandidateIsCut :
    ∀ n ∈ [109, 120], ∃ cand : List Byte,
      cand = ((sweepZero n).reverse.reverse ++
        (carrying (List.replicate (120 - n) 5 ++ 0xB4 :: List.replicate (n - 109) 0)).drop 33).take 804 ∧
      (carrying (List.replicate (120 - n) 5 ++ 0xB4 :: List.replicate (n - 109) 0)).length = 45 ∧
      (remembering .seeking).awaiting = some (wordAt cand 2) ∧ ({ number := 0, bytes := 120 } : Discarded).ShownBy cand ∧
      n ≤ 120 ∧ ∀ x ∈ (remembering .seeking).discarded, x.ShownBy cand → n ≤ x.bytes → 120 ≤ x.bytes := by
  intro n h
  rcases List.mem_pair.mp h with rfl | rfl <;> exact ⟨_, rfl, by decide +kernel⟩

/-- The number of another remembered record: in a header under way, behind idle bytes, and behind a record's last byte. -/
theorem witness_CandidatePassedOver :
    (scanning .seeking).awaiting ≠ some 1 ∧
      (scanning .seeking).discarded = [{ number := 7, bytes := 804 }] ++ { number := 1, bytes := 20 } :: [] ∧
      wordAt (([1, 0xB4] : List Byte).reverse ++ (carrying ([0, 1] ++ List.replicate 10 5)).drop 33) 2 = 1 ∧
      ((carrying ([0, 0, 0xB4, 1, 0, 1] ++ List.replicate 6 5)).drop (33 + 2 - 2) =
        [0, 0] ++ ([0xB4, 1, 0, 1] ++ List.replicate 6 5) ∧ 0xB4#8 ∉ ([0, 0] : List Byte)) ∧
      ((carrying (List.replicate 8 5 ++ [0xB4, 1, 0, 1])).drop (33 + 8 - 0) = [] ++ [0xB4, 1, 0, 1] ∧
        ([0xB4, 1, 0, 1] : List Byte).head? = some 0xB4#8 ∧ wordAt [0xB4, 1, 0, 1] 2 = 1) := by decide +kernel

/-- The rest of the scan: no marker, a marker with its header still to come, one with the number of a discarded record, and a
record whose passing ends with the frame, within it and after it. -/
theorem witness_CandidateBegins :
    ((scanning .seeking).scan = .seeking ∧ 0xB4#8 ∉ (carrying (List.replicate 12 0)).drop 33) ∧
      ((carrying [0, 0, 0, 0, 0, 0, 0, 0, 0, 0xB4, 1, 0]).drop 33 = List.replicate 9 0 ++ 0xB4#8 :: [1, 0] ∧
        0xB4#8 ∉ List.replicate 9 (0 : Byte) ∧ ([1, 0] : List Byte).length < 3) ∧
      ((carrying [0xB4, 1, 0, 1, 0, 0, 0, 0, 0, 0, 0, 0]).drop 33 = [] ++ 0xB4#8 :: [1, 0, 1, 0, 0, 0, 0, 0, 0, 0, 0] ∧
        (scanning .seeking).discarded = [{ number := 7, bytes := 804 }] ++ { number := 1, bytes := 20 } :: [] ∧
        wordAt [0xB4#8, 1, 0, 1, 0, 0, 0, 0, 0, 0, 0, 0] 2 = 1 ∧ 11 + 1 ≤ 20) ∧
      (∀ d ∈ (scanning .seeking).discarded, d.number ≠ wordAt [0xB4#8, 1, 0, 2, 0, 0, 0, 0, 0, 0, 0, 0] 2) ∧
      ((carrying [0, 0, 0, 0, 0, 0, 0, 0, 0, 0, 0, 0xB4]).drop (33 + 11) = [] ++ 0xB4#8 :: [] ∧ 0 < 11 ∧ 11 < 12 ∧ 12 ≤ 12) := by
  decide +kernel

theorem witness_GatedSample : (32768 ≤ 32768) ∧ (chamber.gain .c1).current ≤ 32768 := by decide +kernel

/-- An interval start with nothing due, at each end of the blink count. -/
theorem witness_IntervalStart :
    ({ chamber with frame := 96, blinkCount := 123 }.frame = 96 ∧
      { chamber with frame := 96, blinkCount := 123 }.IntervalSettled ∧
      { chamber with frame := 96, blinkCount := 123 }.seats.length = 200 ∧
      { chamber with frame := 96, blinkCount := 123 }.blinkCount < 124) ∧
      ({ chamber with frame := 96, blinkCount := 124 }.blinkCount = 124 ∧
        { chamber with frame := 96, blinkCount := 124 }.IntervalSettled) ∧
      ((scanning (.taking (List.replicate 803 0))).scan = .taking (List.replicate 803 0) ∧
        { scanning (.finished 0) with frame := 96 }.IntervalSettled ∧ { scanning (.passing 1) with frame := 96 }.IntervalSettled) :=
  by decide +kernel

/-- A seat that answered with its TALK key held. -/
def pressed : UpHalf :=
  { answered := true, live := false, talk := true, priority := false, next := false, cancel := false }

/-- A sweep has returned in which seats 1, 2 and 6 answered; seats 3 and 4 have been silent 48 and 49 times. -/
def swept : State :=
  { chamber with
    seats := (chamber.seats.modify 2 fun t => { t with silence := 48 }).modify 3 fun t => { t with silence := 49 },
    owed := { Owed.reset with
      returned := some { sweep := 8, ups := [pressed, pressed, UpHalf.unanswered, UpHalf.unanswered,
        UpHalf.unanswered, pressed] } } }

/-- An interval start that finds a toggle, a lockout and a timer due, a timer alone, with no context active, a loss, and a return. -/
theorem witness_IntervalStartDue :
    ({ due (timed 1 false) with frame := 96 }.frame = 96 ∧ { due (timed 1 false) with frame := 96 }.owed.lockouts = [5]) ∧
      (let u := { due (timed 1 false) with frame := 96, owed := { Owed.reset with timers := [.c1] } }
       u.owed.timers = [.c1] ∧ u.owed.blink = false ∧ u.owed.lockouts = [] ∧ u.active = some plain) ∧
      State.reset.active = none ∧
      (let u := { swept with frame := 96, owed := { swept.owed with lostSweep := some 7 } }
       u.owed.timers = [] ∧ u.owed.lostSweep ≠ none) ∧
      ({ swept with frame := 96 }.owed.lostSweep = none ∧ { swept with frame := 96 }.owed.returned ≠ none) := by decide +kernel

/-- The interval start takes the due timer as EXPIRED: the grant ends, and the waiting seat is granted (R90). -/
theorem test_interval_start_takes_timer :
    (after (.sweepIntervalStart .emissionFirst) { due (timed 1 false) with frame := 96 }).speakers =
      [{ chan := .c2, seat := 2 }] := by decide +kernel


/-- The rows of the command table. -/
theorem witness_CommandIs :
    ((heldChamber.seat 2).flagged = false ∧ (heldChamber.seat 2).bound = none ∧ (heldChamber.seat 2).place = .waiting) ∧
      ((heldChamber.seat 3).bound = some .p ∧ (heldChamber.chan .p).state = .live) ∧
      ((heldChamber.seat 1).bound = some .c1 ∧ (heldChamber.chan .c1).state = .live) ∧
      ((heldChamber.seat 5).bound = none ∧ (heldChamber.seat 5).place ≠ .waiting) ∧
      ({ chamber with seats := chamber.seats.modify 4 fun t => { t with flagged := true } }.seat 5).flagged = true := by
  decide +kernel

/-- The lockouts and the timers of an interval start: suspended, resting, due to expire, and running. -/
theorem witness_IntervalStartCounts :
    ({ heldChamber with frame := 96 }.IntervalSettled ∧ { heldChamber with frame := 96 }.active = some plain ∧
      (heldChamber.chan .c1).state = .live ∧ (heldChamber.chan .c1).seat = some 1 ∧
      (heldChamber.floor = .held ∧ plain.suspendWhileHeld = true)) ∧
      (¬((timed 0 true).floor = .held ∧ plain.suspendWhileHeld = true) ∧ ((timed 0 true).chan .c1).remaining = some 0 ∧
        ((timed 1 true).chan .c1).remaining = some 1 ∧ ((timed 2 true).chan .c1).remaining = some (0 + 2) ∧
        { timed 2 true with frame := 96 }.IntervalSettled) ∧
      (1 < ({ chamber with seats := chamber.seats.modify 4 fun t => { t with lockout := 2 } }.seat 5).lockout ∧
        ({ chamber with seats := chamber.seats.modify 4 fun t => { t with lockout := 1 } }.seat 5).lockout = 1) := by
  decide +kernel

theorem witness_IntervalStartCountsFirst :
    { timed 1 false with frame := 96 }.IntervalSettled ∧ { timed 1 false with frame := 96 }.seats.length = 200 ∧
      { timed 1 false with frame := 96 }.active = some plain ∧
      ({ timed 1 false with frame := 96 }.run [.sweepIntervalStart .emissionFirst]).owed.timers = [.c1] := by decide +kernel

/-- The counts with the floor CLOSED, in either order. -/
theorem witness_IntervalStartCounts_closed :
    State.reset.frame = 96 ∧ State.reset.IntervalSettled ∧ State.reset.seats.length = 200 ∧ State.reset.active = none ∧
      ∀ c, c ≠ .p → (State.reset.chan c).state ≠ .live :=
  ⟨by decide +kernel, by decide +kernel, by decide +kernel, by decide +kernel, fun c => by cases c <;> decide +kernel⟩

theorem witness_BlinkAndLockout :
    (due chamber).owed.blink = true ∧ 5 ∈ (due chamber).owed.lockouts ∧ 5 ≤ (due chamber).seats.length ∧
      ((due chamber).seat 5).lockout = 1 := by decide +kernel

theorem witness_TimersRunOut :
    (.c1 ∈ (due (timed 1 false)).owed.timers ∧ (due (timed 1 false)).active = some plain ∧ plain.expiry = .revoke ∧
      ¬((due (timed 1 false)).floor = .held ∧ plain.suspendWhileHeld = true) ∧
      ((due (timed 1 false)).chan .c1).seat = some 1 ∧ ((due (timed 1 false)).chan .c1).remaining = some 1 ∧
      ((due (timed 2 false)).chan .c1).remaining = some (0 + 2)) ∧
      (under (due (timed 1 false)) fun c => { c with expiry := .warnOnly }).active =
        some { plain with expiry := .warnOnly } := by decide +kernel

/-- A timer not due; a due one that meets the floor HELD, rests at 0 or is gone; one to which EXTEND has added, just above the lead and at
it; and the other expiry. -/
theorem witness_TimersRunOut_others :
    .c2 ∉ (due chamber).owed.timers ∧
      (.c1 ∈ (due heldChamber).owed.timers ∧ (due heldChamber).floor = .held ∧ plain.suspendWhileHeld = true ∧
        ((due heldChamber).chan .c1).seat = some 1) ∧
      ((due (timed 0 false)).chan .c1).remaining = some 0 ∧
      ((due (chamber.setChan .c1 { chamber.chan .c1 with remaining := none })).chan .c1).remaining = none ∧
      (((due (timed 7502 false)).chan .c1).remaining = some (7500 + 2) ∧
        (0 < plain.warningLead && 7500 + 1 ≤ plain.warningLead * 500) = false) ∧
      (((due (timed 7501 false)).chan .c1).remaining = some (7499 + 2) ∧
        (0 < plain.warningLead && 7499 + 1 ≤ plain.warningLead * 500) = true) ∧
      (due (timed 7501 false)).active = some plain ∧ { plain with expiry := .warnOnly }.expiry = .warnOnly := by decide +kernel


/-- The chamber awaiting sweep 8 at the end of an interval, with `k` losses in a row behind it. -/
def losing (s : State) (k : Nat) : State := { s with awaiting := some 8, frame := 96, lostRun := k }

/-- The loss declared before the next emission and after it: the 24th, one of a DOWN trunk, and the 25th. -/
theorem witness_LostSweeps :
    (¬((losing chamber 23).trunk = .up ∧ 24 ≤ (losing chamber 23).lostRun) ∧ (losing chamber 23).owed.lostSweep = none ∧
      (losing chamber 23).awaiting = some 8 ∧ (losing chamber 23).frame = 96) ∧
      ¬((losing State.reset 25).trunk = .up ∧ 24 ≤ (losing State.reset 25).lostRun) ∧
      ((losing heldChamber 24).trunk = .up ∧ 24 ≤ (losing heldChamber 24).lostRun) ∧
      (chamber.setOwed { Owed.reset with lostSweep := some 8 }).owed.lostSweep = some 8 := by decide +kernel

/-- No loss due: no sweep awaited, and one awaited within its interval. -/
theorem witness_LostSweeps_none :
    (chamber.owed.lostSweep = none ∧ chamber.awaiting = none) ∧ { chamber with awaiting := some 8 }.frame ≠ 96 := by
  decide +kernel

theorem witness_TrunkBreak :
    (losing heldChamber 24).FloorAgrees ∧
      (heldChamber.holderEnded .trunkDown = [.ended 3 .p .trunkDown 0] ∧ heldChamber.holderResumed = [.resumed 3 .resume]) ∧
      ((losing heldChamber 24).setOwed { Owed.reset with lostSweep := some 8 }).FloorAgrees :=
  ⟨heldChamber_agrees.of_same, by decide +kernel, heldChamber_agrees.of_same⟩

theorem witness_SweepReturned :
    swept.SweepSettled ∧ swept.seats.length = 200 ∧ (swept.seat 6).present = false ∧
      (swept.seat 3).silence + 1 < swept.settings.presenceTimeout ∧
      swept.settings.presenceTimeout ≤ (swept.seat 4).silence + 1 ∧ (swept.seat 7).present = false ∧
      ((swept.seat 1).keys.talk.agree + 1 < swept.settings.filterDepth ∧
        pressed.talk ≠ (swept.seat 1).keys.talk.held ∧ pressed.next = (swept.seat 1).keys.next.held) := by decide +kernel

/-- A return that finds an earlier sweep's loss, its losses and audit, a presentation without slots, and a slot that gives an action or
none. -/
theorem witness_SweepReturnedFindsDue :
    ({ swept with owed := { swept.owed with lostSweep := some 7 } }.owed.returned ≠ none) ∧
      (let u := { swept with owed := { swept.owed with losses := [3], audit := some [] } }
       u.owed.lostSweep = none ∧ u.owed.actions = none ∧ u.owed.losses = [3]) ∧
      (let u := { swept with owed := { swept.owed with actions := some { sweep := 7, slots := [] } } }
       u.owed.actions = some { sweep := 7, slots := [] } ∧ u.owed.lostSweep = none) ∧
      (let u (e : KeyEvent) := { swept with
         owed := { swept.owed with actions := some { sweep := 7, slots := { seat := 5, event := e } :: [] } } }
       (u (.talk true)).owed.lostSweep = none ∧ ((u (.talk true)).seat 5).derive (.talk true) = some .request ∧
         ((u (.talk false)).seat 5).derive (.talk false) = none ∧ KeyAct.withdraw.comesFrom (.talk false) = true) := by
  decide +kernel


/-- The accepting clause of the filter: one differing level already counted at depth 2. -/
theorem witness_SweepReturned_accepts :
    (({ swept with seats := swept.seats.modify 0 fun t =>
        { t with keys := { t.keys with talk := { held := false, agree := 1 } } } }.seat 1).keys.talk.agree) + 1 =
      swept.settings.filterDepth := by decide +kernel

/-- The slots of a sweep: none, and one from the second differing TALK level of seat 1. -/
theorem witness_SweepReturnedHandsOn :
    (1 ≤ swept.rotation ∧ swept.rotation ≤ 200) ∧ (after .sweepReturned swept).owed.actions = none ∧
      (after .sweepReturned { swept with seats := swept.seats.modify 0 fun t =>
        { t with keys := { t.keys with talk := { held := false, agree := 1 } } } }).owed.actions =
          some { sweep := 8, slots := [{ seat := 1, event := .talk true }] } := by decide +kernel

theorem witness_SeatLost :
    (chamber.setOwed { Owed.reset with losses := [1, 3] }).FloorAgrees ∧
      (chamber.seat 1).present = true ∧ 2 ∉ ([1, 3] : List Nat) ∧
      (∀ n ∈ (emptyChamber.setOwed { Owed.reset with losses := [1, 5] }).owed.losses, (emptyChamber.seat n).place = .idle) :=
  ⟨chamber_agrees.of_same, by decide +kernel, by decide, by decide +kernel⟩

/-- A speaker, a waiting seat and an absent one due to be lost. -/
theorem witness_SeatLost_passes :
    ([1, 2, 7].filter fun n => (chamber.seat n).present) = [1, 2] ∧ (chamber.seat 1).place = .live ∧
      (chamber.seat 2).place = .waiting := by decide +kernel

/-- A seat for each clause of the derivation: disabled, barred, PUSH and HOLD out of IDLE, flagged, a chair. -/
theorem witness_KeyActions :
    Seat.reset.config.enabled = false ∧ (seated .observer).config.cls = .observer ∧
      ((seated .delegate).config.cls ≠ .observer ∧ (seated .delegate).lockout = 0 ∧ (seated .delegate).bound ≠ some .p ∧
        (seated .delegate).place = .idle) ∧
      ({ seated .delegate with place := .waiting }.place ≠ .idle ∧ { seated .delegate with place := .waiting }.flagged = false) ∧
      ((seated .chair).config.cls = .chair ∧ (seated .chair).flagged = false) := by decide +kernel

/-- The chamber with the slots of seats 5 and 2 to come: a TALK release, which gives no action, and then a press. -/
def slotted (first : KeyEvent) : State :=
  chamber.setOwed { Owed.reset with
    actions := some { sweep := 5, slots := [{ seat := 5, event := first }, { seat := 2, event := .talk true }] } }

/-- The slot of a key command: next and giving none, behind one that gives none, behind one that gives an action, giving another
action, and absent. -/
theorem witness_KeyActionSlots :
    ((slotted (.talk false)).owed.actions = some { sweep := 5, slots := [] ++
        { seat := 5, event := .talk false } :: [{ seat := 2, event := .talk true }] } ∧
      KeyAct.request.comesFrom (.talk false) = true ∧ (chamber.seat 5).derive (.talk false) = none) ∧
      ((slotted (.talk false)).owed.actions = some { sweep := 5, slots := [{ seat := 5, event := .talk false }] ++
          { seat := 2, event := .talk true } :: [] } ∧
        (∀ j ∈ [({ seat := 5, event := .talk false } : KeySlot)], ¬(j.seat = 2 ∧ KeyAct.withdraw.comesFrom j.event = true)) ∧
        (chamber.seat 2).derive (.talk true) = some .withdraw) ∧
      (chamber.seat 5).derive (.talk true) = some .request ∧ KeyAct.withdraw ≠ .request ∧
      ((slotted (.talk false)).owed.actions = some { sweep := 5, slots := [{ seat := 5, event := .talk false },
          { seat := 2, event := .talk true }] } ∧
        ∀ j ∈ [({ seat := 5, event := .talk false } : KeySlot), { seat := 2, event := .talk true }],
          ¬(j.seat = 3 ∧ KeyAct.next.comesFrom j.event = true)) := by decide +kernel

/-- A request taken with the floor CLOSED, from a flagged seat, from one not admitted, and HELD under DIRECT. -/
theorem witness_RequestIsDenied :
    (asking { emptyChamber with agenda := [], floor := .closed } 5 (.talk true)).Presenting 5 5 (.talk true) .request [] ∧
      ((asking { chamber with seats := chamber.seats.modify 4 fun t => { t with flagged := true } } 5
          (.talk true)).Presenting 5 5 (.talk true) .request [] ∧
        ({ chamber with seats := chamber.seats.modify 4 fun t => { t with flagged := true } }.seat 5).flagged = true) ∧
      ((asking (under chamber fun c => { c with admitted := { c.admitted with delegate := false } }) 5
          (.talk true)).Presenting 5 5 (.talk true) .request [] ∧
        (under chamber fun c => { c with admitted := { c.admitted with delegate := false } }).eligible 5 = false) ∧
      ((asking (under heldChamber fun c => { c with mode := .direct }) 5 (.talk true)).Presenting 5 5 (.talk true) .request [] ∧
        heldChamber.eligible 5 = true) := by decide +kernel

/-- A request that is granted, and one denied under DIRECT for want of room. -/
theorem witness_RequestIsGranted :
    ((asking emptyChamber 5 (.talk true)).Presenting 5 5 (.talk true) .request [] ∧ emptyChamber.eligible 5 = true ∧
      emptyChamber.active = some plain ∧ emptyChamber.room = some .c1 ∧ emptyChamber.waiting = []) ∧
      ((asking (under chamber fun c => { c with mode := .direct }) 5 (.talk true)).Presenting 5 5 (.talk true) .request [] ∧
        (under chamber fun c => { c with mode := .direct }).room = none) := by decide +kernel

/-- A request that is to join a list without places, a full list, and a list with one place left, CHAIR first. -/
theorem witness_RequestJoins :
    ((asking (under chamber fun c => { c with listLimit := 0 }) 5 (.talk true)).Presenting 5 5 (.talk true) .request [] ∧
      chamber.room = none ∧ chamber.eligible 5 = true ∧ plain.mode = .queued) ∧
      ((asking (under chamber fun c => { c with listLimit := 1 }) 5 (.talk true)).Presenting 5 5 (.talk true) .request [] ∧
        0 < 1 ∧ 1 ≤ chamber.waiting.length) ∧
      ((asking (under chamber fun c => { c with listLimit := 2, chairFirst := true }) 4 (.talk true)).Presenting 5 4
          (.talk true) .request [] ∧ chamber.waiting.length < 2 ∧ chamber.isChair 4 = true) := by decide +kernel

/-- Places in the list: at its head and behind its tail. -/
theorem witness_InsertWaiting :
    5 ∈ seatNumbers ∧ chamber.seats.length = 200 ∧ 0 ≤ chamber.waiting.length ∧ 1 ≤ chamber.waiting.length ∧
      (chamber.insertWaiting 5 9 1).waiting = [{ seat := 2, sweep := 5 }, { seat := 5, sweep := 9 }] ∧
      (chamber.insertWaiting 5 9 1).notices = [.queued 5 2] := by decide +kernel


/-- The chamber in OVERRIDE with a list limit. -/
def overriding (limit : Nat) : State := under chamber fun c => { c with mode := .override, listLimit := limit }

theorem witness_OverrideDisplaces :
    (asking (overriding 1) 5 (.talk true)).Presenting 5 5 (.talk true) .request [] ∧ (overriding 1).eligible 5 = true ∧
      (overriding 1).room = none ∧ (overriding 1).speakers = [] ++ { chan := .c1, seat := 1 } :: [] ∧
      (overriding 1).isChair 1 = false ∧
      ((overriding 1).release .c1 1 .displaced).room = some .c2 := by decide +kernel

/-- No other channel is FREE: the requester finds a full list, or one with a place left, or no list at all. -/
def crowded (limit : Nat) : State :=
  { overriding limit with
    channels := { PerChan.all { Channel.reset with state := .releasing } with
      c1 := { state := .live, seat := some 1, remaining := some 30000, warned := false, held := 0 }, p := Channel.reset } }

theorem witness_OverrideDisplaces_crowded :
    (asking (crowded 0) 5 (.talk true)).Presenting 5 5 (.talk true) .request [] ∧ (crowded 0).room = none ∧
      (∀ d, d ≠ .p → (∃ o ∈ (crowded 0).speakers, o.chan = d) ∨ ((crowded 0).chan d).state = .releasing) ∧
      ((crowded 1).release .c1 1 .displaced).room = none ∧ (crowded 1).waiting.length = 1 ∧
      (crowded 1).waiting.getLast? = some { seat := 2, sweep := 5 } :=
  ⟨by decide +kernel, by decide +kernel, fun d => by cases d <;> decide +kernel, by decide +kernel, by decide +kernel,
    by decide +kernel⟩

/-- With another channel FREE a list limit of 0 does not deny the request. -/
theorem witness_OverrideDisplaces_limit0 :
    (asking (overriding 0) 5 (.talk true)).Presenting 5 5 (.talk true) .request [] ∧
      ¬(∀ d, d ≠ .p → (∃ o ∈ (overriding 0).speakers, o.chan = d) ∨ ((overriding 0).chan d).state = .releasing) ∧
      ((overriding 0).release .c1 1 .displaced).room = some .c2 :=
  ⟨by decide +kernel, fun h => absurd (h .c2 (by decide)) (by decide +kernel), by decide +kernel⟩

theorem witness_Withdraw :
    ((asking chamber 2 (.talk true)).Presenting 5 2 (.talk true) .withdraw [] ∧ (chamber.seat 2).place = .waiting) ∧
      ((asking chamber 1 (.talk true)).Presenting 5 1 (.talk true) .withdraw [] ∧ (chamber.seat 1).place = .live ∧
        (chamber.seat 1).bound = some .c1) := by decide +kernel

theorem witness_NextAction :
    ((asking chamber 3 .nextPress).Presenting 5 3 .nextPress .next [] ∧ chamber.floor = .opened) ∧
      ((asking heldChamber 4 .nextPress).Presenting 5 4 .nextPress .next [] ∧ heldChamber.floor ≠ .opened) := by
  decide +kernel

theorem witness_NextDirective :
    (sent chamber 11 []).Dispatching 9 .next [] ∧ (sent heldChamber 11 []).Dispatching 9 .next [] ∧
      (sent State.reset 11 []).Dispatching 9 .next [] :=
  ⟨sent_dispatching, sent_dispatching, sent_dispatching⟩

theorem witness_Cancel :
    ((asking heldChamber 4 .cancelPress).Presenting 5 4 .cancelPress .cancel [] ∧ heldChamber.floor ≠ .closed) ∧
      (asking heldChamber 4 .cancelPress).FloorAgrees ∧
      (asking { emptyChamber with agenda := [], floor := .closed } 4 .cancelPress).Presenting 5 4 .cancelPress .cancel [] ∧
      (sent heldChamber 12 []).Dispatching 9 .cancelAll [] ∧ (sent heldChamber 12 []).FloorAgrees ∧
      (sent State.reset 12 []).Dispatching 9 .cancelAll [] :=
  ⟨by decide +kernel, heldChamber_agrees.of_same, by decide +kernel, sent_dispatching,
    heldChamber_agrees.of_same, sent_dispatching⟩

/-- A chair that is IDLE, one that waits, one that speaks, and one that finds the floor HELD. -/
theorem witness_PriorityHeld :
    ((asking (armed chamber 3) 3 .priorityLevel).Presenting 5 3 .priorityLevel .priorityHeld [] ∧
      (armed chamber 3).entitledChair 3 = true ∧ (chamber.chan .p).state = .free ∧ ((armed chamber 3).seat 3).place = .idle) ∧
      (asking ((armed chamber 3).setPlace 3 .waiting none) 3 .priorityLevel).Presenting 5 3 .priorityLevel .priorityHeld [] ∧
      (asking ((armed chamber 3).setPlace 3 .live (some .c2)) 3 .priorityLevel).Presenting 5 3 .priorityLevel .priorityHeld
        [] ∧
      ((asking (armed heldChamber 4) 4 .priorityLevel).Presenting 5 4 .priorityLevel .priorityHeld [] ∧
        heldChamber.floor = .held) := by decide +kernel

theorem witness_PriorityReleased :
    ((asking heldChamber 3 .priorityRelease).Presenting 5 3 .priorityRelease .priorityReleased [] ∧
      (heldChamber.chan .p).state = .live ∧ (heldChamber.chan .p).seat = some 3 ∧ heldChamber.active = some plain) ∧
      (asking heldChamber 3 .priorityRelease).FloorAgrees ∧
      ((asking heldChamber 4 .priorityRelease).Presenting 5 4 .priorityRelease .priorityReleased [] ∧
        (heldChamber.chan .p).seat ≠ some 4) ∧
      (under heldChamber fun c => { c with priorityEnd := .clear }).active = some { plain with priorityEnd := .clear } :=
  ⟨by decide +kernel, heldChamber_agrees.of_same, by decide +kernel, by decide +kernel⟩

/-- The intervention under CLEAR, with a seat waiting and with none. -/
def clearing : State := under heldChamber fun c => { c with priorityEnd := .clear }

theorem witness_PriorityReleased_clear :
    ((asking clearing 3 .priorityRelease).Presenting 5 3 .priorityRelease .priorityReleased [] ∧
      clearing.active = some { plain with priorityEnd := .clear } ∧ clearing.speakers ≠ []) ∧
      (asking clearing 3 .priorityRelease).FloorAgrees ∧
      ((asking (clearing.removeWaiting 2 .removed) 3 .priorityRelease).Presenting 5 3 .priorityRelease .priorityReleased [] ∧
        (clearing.removeWaiting 2 .removed).waiting = []) ∧
      (asking (clearing.removeWaiting 2 .removed) 3 .priorityRelease).FloorAgrees :=
  ⟨by decide +kernel, by constructor <;> decide +kernel, by decide +kernel, by constructor <;> decide +kernel⟩

/-- The chamber with one answered entry of seat 5 due to be compared, its count at `k`. -/
def audited (k : Nat) (commandedOpen reportedOpen : Bool) : State :=
  { chamber with
    seats := chamber.seats.modify 4 fun t => { t with mismatch := k },
    owed := { Owed.reset with
      audit := some [{ seat := 5, commandedOpen := commandedOpen, reportedOpen := reportedOpen }] } }

/-- An equal pair; a differing one below the tolerance of 4; the one that reaches it. -/
theorem witness_AuditCompares :
    ((audited 2 true true).seat 5).present = true ∧ 5 ≤ (audited 2 true true).seats.length ∧
      (∀ n ∈ seatNumbers, ((audited 2 true true).seat n).pendingSense = none) ∧
      min (((audited 2 false true).seat 5).mismatch + 1) 15 < (audited 2 false true).settings.auditTolerance ∧
      (audited 3 false true).settings.auditTolerance ≤ min (((audited 3 false true).seat 5).mismatch + 1) 15 ∧
      ((audited 3 false true).seat 5).flagged = false ∧ ((audited 3 false true).seat 5).place = .idle := by decide +kernel

/-- Two entries due: the first of an absent seat, of a pending one, of a flagged one, and of one that becomes pending. -/
theorem witness_AuditTwoEntries :
    let two (n : Nat) : State := chamber.setOwed { Owed.reset with
      audit := some [{ seat := n, commandedOpen := true, reportedOpen := false },
        { seat := 2, commandedOpen := true, reportedOpen := true }] }
    ((two 7).owed.audit = some ({ seat := 7, commandedOpen := true, reportedOpen := false } ::
        [{ seat := 2, commandedOpen := true, reportedOpen := true }]) ∧ ((two 7).seat 7).present = false) ∧
      (((two 1).updSeat 1 fun t => { t with pendingSense := some .reportedOpen }).seat 1).pendingSense.isSome = true ∧
      (((two 1).updSeat 1 fun t => { t with flagged := true }).seat 1).flagged = true ∧
      (((two 1).updSeat 1 fun t => { t with mismatch := 3 }).seat 1).pendingSense = none ∧
      (two 1).settings.auditTolerance ≤ min ((((two 1).updSeat 1 fun t => { t with mismatch := 3 }).seat 1).mismatch + 1) 15 ∧
      (chamber.setOwed { Owed.reset with audit := some [] }).owed.audit = some [] ∧
      (∀ n ∈ seatNumbers, (chamber.seat n).pendingSense = none) := by decide +kernel

/-- Seats 1, 2 and 5 pending in turn, with the cursor at the seat before, at the seat itself and at 200. -/
def pendingAt (n cursor : Nat) : State :=
  { chamber with
    seats := chamber.seats.modify (n - 1) fun t => { t with pendingSense := some .reportedOpen }, cursor := cursor,
    owed := { Owed.reset with audit := some [] } }

theorem witness_AuditReportsFirst :
    (((pendingAt 1 200).seat 1).pendingSense = some .reportedOpen ∧ ((pendingAt 1 200).seat 1).place = .live ∧
      ∀ m ∈ seatNumbers, (m + 199 - 200) % 200 < (1 + 199 - 200) % 200 → ((pendingAt 1 200).seat m).pendingSense = none) ∧
      (((pendingAt 2 2).seat 2).pendingSense = some .reportedOpen ∧ ((pendingAt 2 2).seat 2).place = .waiting ∧
        ∀ m ∈ seatNumbers, (m + 199 - 2) % 200 < (2 + 199 - 2) % 200 → ((pendingAt 2 2).seat m).pendingSense = none) ∧
      (((pendingAt 5 0).seat 5).pendingSense = some .reportedOpen ∧ ((pendingAt 5 0).seat 5).place = .idle ∧
        ∀ m ∈ seatNumbers, (m + 199 - 0) % 200 < (5 + 199 - 0) % 200 → ((pendingAt 5 0).seat m).pendingSense = none) := by
  decide +kernel

/-- The holder of the intervention is reported. -/
theorem witness_AuditReportsHolder :
    let s := { heldChamber with
      seats := heldChamber.seats.modify 2 fun t => { t with pendingSense := some .reportedClosed }, cursor := 2,
      owed := { Owed.reset with audit := some [] } }
    (s.seat 3).pendingSense = some .reportedClosed ∧ (s.seat 3).place = .live ∧ (s.seat 3).bound = some .p ∧
      s.active = some plain ∧
      ∀ m ∈ seatNumbers, (m + 199 - s.cursor) % 200 < (3 + 199 - s.cursor) % 200 → (s.seat m).pendingSense = none := by
  decide +kernel

theorem witness_ClearFlag :
    (sent chamber 14 [0]).Dispatching 9 (.clearFlag 0) [] ∧ (sent chamber 14 [200]).Dispatching 9 (.clearFlag 200) [] ∧
      (sent chamber 14 [201]).Dispatching 9 (.clearFlag 201) [] ∧ (sent chamber 14 [0]).seats.length = 200 :=
  ⟨sent_dispatching, sent_dispatching, sent_dispatching, by decide +kernel⟩

theorem witness_ChannelFreed :
    .c1 ∈ ((after .revoke (sent chamber 8 [1])).setOwed { Owed.reset with freed := [.c1] }).owed.freed ∧
      ((after .revoke (sent chamber 8 [1])).chan .c1).state = .releasing := by decide +kernel

/-- A batch with room, one without, one of none, and a fill in each mode and floor state. -/
theorem witness_FillAndBatch :
    let roomy := under chamber fun c => { c with maxLive := 2, mode := .override }
    (roomy.waiting = { seat := 2, sweep := 5 } :: [] ∧ roomy.speakers.length < 2 ∧ (roomy.chan .c2).state = .free ∧
      (roomy.chan .c1).state ≠ .free ∧ roomy.floor = .opened) ∧
      (chamber.active = some plain ∧ plain.maxLive ≤ chamber.speakers.length ∧ plain.mode = .queued) ∧
      (emptyChamber.waiting = [] ∧ heldChamber.floor ≠ .opened ∧ State.reset.active = none) ∧
      (under chamber fun c => { c with mode := .moderated }).active = some { plain with mode := .moderated } := by
  decide +kernel

/-- The rows of GRANT's table: CLOSED, HELD, trunk DOWN, not eligible, LIVE, no room, WAITING. -/
theorem witness_OperatorGrant :
    (sent State.reset 7 [5]).Dispatching 9 (.grant 5) [] ∧ (sent heldChamber 7 [5]).Dispatching 9 (.grant 5) [] ∧
      (sent { chamber with trunk := .down } 7 [5]).Dispatching 9 (.grant 5) [] ∧
      ((sent chamber 7 [6]).Dispatching 9 (.grant 6) [] ∧ chamber.eligible 6 = false) ∧
      ((sent chamber 7 [1]).Dispatching 9 (.grant 1) [] ∧ (chamber.seat 1).bound = some .c1 ∧ chamber.eligible 1 = true) ∧
      ((sent chamber 7 [5]).Dispatching 9 (.grant 5) [] ∧ (sent chamber 7 [5]).room = none) ∧
      ((under (sent chamber 7 [2]) fun c => { c with maxLive := 2 }).Dispatching 9 (.grant 2) [] ∧
        (under chamber fun c => { c with maxLive := 2 }).room = some .c2 ∧ (chamber.seat 2).place = .waiting) :=
  ⟨sent_dispatching, sent_dispatching, sent_dispatching,
    ⟨sent_dispatching, by decide +kernel⟩, ⟨sent_dispatching, by decide +kernel⟩,
    ⟨sent_dispatching, by decide +kernel⟩,
    ⟨⟨by decide +kernel, _, rfl, by decide +kernel⟩, by decide +kernel⟩⟩

/-- An IDLE seat granted with room, the lead below the limit; and the warned and the untimed grant. -/
theorem witness_OperatorGrantBinds :
    (sent emptyChamber 7 [5]).Dispatching 9 (.grant 5) [] ∧
      (emptyChamber.eligible 5 = true ∧ emptyChamber.active = some plain ∧ 5 ∈ seatNumbers ∧ emptyChamber.seats.length = 200 ∧
        (emptyChamber.seat 5).place = .idle ∧ (emptyChamber.seat 5).bound = none ∧
        5 ∉ emptyChamber.waiting.map WaitEntry.seat ∧ emptyChamber.speakers.length < plain.maxLive ∧
        (emptyChamber.chan .c1).state = .free) ∧
      (∀ d, d ≠ .p → d.code < Chan.c1.code → (emptyChamber.chan d).state ≠ .free) ∧
      (0 < { plain with warningLead := 60 }.warningLead ∧ plain.limit ≤ { plain with warningLead := 60 }.warningLead) :=
  ⟨sent_dispatching, by decide +kernel, fun d => by cases d <;> decide +kernel, by decide +kernel⟩

/-- Grants of channel P, from the list, warned as they are made, and untimed. -/
theorem witness_GrantOfAnyChannel :
    (emptyChamber.active = some plain ∧ 3 ∈ seatNumbers ∧ emptyChamber.seats.length = 200) ∧
      (emptyChamber.grant .p 3 false).notices = [.granted 3 .p false] ∧
      ((under emptyChamber fun c => { c with warningLead := 60 }).grant .c1 5 true).notices =
        [.granted 5 .c1 true, .warning 5 .c1 600] ∧
      ((under emptyChamber fun c => { c with limit := 0 }).grant .c1 5 true).notices = [.granted 5 .c1 true] ∧
      ((emptyChamber.grant .c1 3 false).chan .c1).remaining = none := by decide +kernel


/-- REVOKE of an IDLE seat, a WAITING one, a speaker and the holder. -/
theorem witness_Revoke :
    ((sent chamber 8 [5]).Dispatching 9 (.revoke 5) [] ∧ (chamber.seat 5).place = .idle) ∧
      ((sent chamber 8 [2]).Dispatching 9 (.revoke 2) [] ∧ (chamber.seat 2).place = .waiting) ∧
      ((sent chamber 8 [1]).Dispatching 9 (.revoke 1) [] ∧ (chamber.seat 1).place = .live ∧
        (chamber.seat 1).bound = some .c1) ∧
      ((sent heldChamber 8 [3]).Dispatching 9 (.revoke 3) [] ∧ (heldChamber.seat 3).place = .live ∧
        (heldChamber.seat 3).bound = some .p ∧ heldChamber.active = some plain) ∧
      ((sent { chamber with waiting := [] } 8 [1]).Dispatching 9 (.revoke 1) [] ∧ 1 ∈ seatNumbers ∧
        chamber.seats.length = 200) :=
  ⟨⟨sent_dispatching, by decide +kernel⟩, ⟨sent_dispatching, by decide +kernel⟩,
    ⟨sent_dispatching, by decide +kernel⟩, ⟨sent_dispatching, by decide +kernel⟩,
    ⟨sent_dispatching, by decide +kernel⟩⟩

/-- EXTEND of a seat without a channel, of the holder, of an untimed grant and of a timed one. -/
theorem witness_Extend :
    ((sent chamber 13 [5, 0, 1]).Dispatching 9 (.extend 5 1) [] ∧ (chamber.seat 5).bound = none) ∧
      ((sent heldChamber 13 [3, 0, 1]).Dispatching 9 (.extend 3 1) [] ∧ (heldChamber.seat 3).bound = some .p) ∧
      ((chamber.setChan .c1 { chamber.chan .c1 with remaining := none }).chan .c1).remaining = none ∧
      ((sent (timed 0 true) 13 [1, 0, 60]).Dispatching 9 (.extend 1 60) [] ∧ ((timed 0 true).seat 1).bound = some .c1 ∧
        ((timed 0 true).chan .c1).remaining = some 0 ∧ (timed 0 true).active = some plain) :=
  ⟨⟨sent_dispatching, by decide +kernel⟩, ⟨sent_dispatching, by decide +kernel⟩,
    by decide +kernel, ⟨sent_dispatching, by decide +kernel⟩⟩

/-- The rows of ENQUEUE's table, and positions at and beyond both ends. -/
theorem witness_Enqueue :
    (sent State.reset 9 [5, 1]).Dispatching 9 (.enqueue 5 1) [] ∧
      ((sent chamber 9 [2, 1]).Dispatching 9 (.enqueue 2 1) [] ∧ (chamber.seat 2).place ≠ .idle) ∧
      (under (sent chamber 9 [5, 1]) fun c => { c with mode := .direct }).active = some { plain with mode := .direct } ∧
      (under (sent chamber 9 [5, 1]) fun c => { c with listLimit := 1 }).active = some { plain with listLimit := 1 } ∧
      ((sent chamber 9 [5, 0]).Dispatching 9 (.enqueue 5 0) [] ∧ (sent chamber 9 [5, 2]).Dispatching 9 (.enqueue 5 2) [] ∧
        (sent chamber 9 [5, 255]).Dispatching 9 (.enqueue 5 255) [] ∧ chamber.eligible 5 = true ∧
        (chamber.seat 5).place = .idle ∧ chamber.waiting.length = 1) :=
  ⟨sent_dispatching, ⟨sent_dispatching, by decide +kernel⟩, by decide +kernel,
    by decide +kernel, sent_dispatching, sent_dispatching,
    sent_dispatching, by decide +kernel⟩

/-- R76: a removal for any reason, here of the seat at the head. -/
theorem witness_RemoveWaiting :
    2 ∈ seatNumbers ∧ chamber.seats.length = 200 ∧ (chamber.removeWaiting 2 .truncated).waiting = [] ∧
      (chamber.removeWaiting 2 .truncated).notices = [.dequeued 2 .truncated] := by decide +kernel

theorem witness_Remove :
    ((sent chamber 10 [2]).Dispatching 9 (.remove 2) [] ∧ (chamber.seat 2).place = .waiting ∧ 2 ∈ seatNumbers ∧
      chamber.seats.length = 200) ∧
      ((sent chamber 10 [1]).Dispatching 9 (.remove 1) [] ∧ (chamber.seat 1).place ≠ .waiting) ∧
      (sent State.reset 10 [1]).Dispatching 9 (.remove 1) [] ∧ State.reset.waiting = [] :=
  ⟨⟨sent_dispatching, by decide +kernel⟩, ⟨sent_dispatching, by decide +kernel⟩,
    sent_dispatching, rfl⟩

/-- A seat table entry that disables its seat. -/
def disabled : SeatConfig := { SeatConfig.reset with enabled := false }

/-- A run at the top of the table, and loads that disable a waiting seat, a speaker and the holder, that take a speaker's class out of
those admitted, and that leave the holder a CHAIR. -/
theorem witness_LoadSeats :
    ((sent emptyChamber 1 [200, 1, 0, 0, 0, 0x80, 0]).Dispatching 9 (.loadSeats 200 [disabled]) [] ∧
      200 + [disabled].length ≤ 201 ∧ emptyChamber.seats.length = 200 ∧
      ∀ n ∈ seatNumbers, (emptyChamber.seat n).place = .idle) ∧
      ((sent chamber 1 [2, 1, 0, 0, 0, 0x80, 0]).Dispatching 9 (.loadSeats 2 [disabled]) [] ∧
        (chamber.seat 2).config ≠ disabled ∧ (chamber.seat 2).place = .waiting) ∧
      ((sent chamber 1 [1, 1, 0, 0, 0, 0x80, 0]).Dispatching 9 (.loadSeats 1 [disabled]) [] ∧
        (chamber.seat 1).config ≠ disabled ∧ (chamber.seat 1).bound = some .c1) ∧
      ((sent heldChamber 1 [3, 1, 0, 0, 0, 0x80, 0]).Dispatching 9 (.loadSeats 3 [disabled]) [] ∧
        (heldChamber.seat 3).config ≠ disabled ∧ (heldChamber.seat 3).bound = some .p) :=
  ⟨⟨sent_dispatching, by decide +kernel⟩, ⟨sent_dispatching, by decide +kernel⟩, ⟨sent_dispatching, by decide +kernel⟩,
    ⟨sent_dispatching, by decide +kernel⟩⟩

theorem witness_LoadSeats_classes :
    ((sent chamber 1 [1, 1, 1, 3, 0, 0x80, 0]).Dispatching 9
        (.loadSeats 1 [{ (seated .observer).config with enabled := true }]) [] ∧
      plain.admitted.admits .observer = false ∧ (chamber.seat 1).config ≠ (seated .observer).config) ∧
      ((sent heldChamber 1 [3, 1, 1, 1, 1, 0x80, 0]).Dispatching 9
          (.loadSeats 3 [{ (seated .chair).config with keyAction := .hold }]) [] ∧
        (heldChamber.seat 3).config ≠ { (seated .chair).config with keyAction := .hold }) ∧
      (plain.admitted.admits .guest = true ∧ (chamber.seat 1).bound ≠ some .p ∧
        (chamber.seat 1).config ≠ (seated .guest).config) ∧
      (sent chamber 1 [1, 2, 0, 0, 0, 0x80, 0, 0, 0, 0, 0x80, 0]).Dispatching 9 (.loadSeats 1 [disabled, disabled]) [] :=
  ⟨⟨sent_dispatching, by decide +kernel⟩, ⟨sent_dispatching, by decide +kernel⟩, by decide +kernel, sent_dispatching⟩

theorem witness_Reads :
    (sent chamber 2 [153, 48]).Dispatching 9 (.readSeats 153 48) [] ∧ (sent chamber 15 []).Dispatching 9 .readFloor [] :=
  ⟨sent_dispatching, sent_dispatching⟩

/-- A STAGE_ITEM body: item 7, QUEUED, one speaker, list limit 4, all but OBSERVER, 60 s, lead 15 s, batch 2, duck 16,384. -/
def stageBody : List Byte := [0, 7, 1, 1, 4, 7, 0, 0, 60, 0, 0, 15, 0, 2, 0x40, 0, 0, 1, 1]

theorem witness_StageItem :
    ((sent { emptyChamber with agenda := [], floor := .closed } 4 stageBody).Dispatching 9 (.stageItem plain) [] ∧
      emptyChamber.waiting = []) ∧
      (sent chamber 4 stageBody).Dispatching 9 (.stageItem plain) [] ∧
      ((sent { chamber with agenda := [plain, plain] } 4 stageBody).Dispatching 9 (.stageItem plain) []) :=
  ⟨⟨sent_dispatching, by decide +kernel⟩, sent_dispatching,
    sent_dispatching⟩

/-- The chamber with agenda-empty CLOSE. -/
def closing : State := { chamber with settings := { chamber.settings with agendaEmpty := .close } }

theorem witness_AdvanceItem :
    (sent State.reset 5 []).Dispatching 9 .advanceItem [] ∧ (sent heldChamber 5 []).Dispatching 9 .advanceItem [] ∧
      ((sent chamber 5 []).Dispatching 9 .advanceItem [] ∧ chamber.settings.agendaEmpty = .keep) ∧
      ((sent closing 5 []).Dispatching 9 .advanceItem [] ∧ closing.settings.agendaEmpty = .close ∧
        (sent closing 5 []).FloorAgrees) :=
  ⟨sent_dispatching, sent_dispatching,
    ⟨sent_dispatching, rfl⟩,
    ⟨sent_dispatching, rfl, chamber_agrees.of_same⟩⟩

/-- The chamber with a second context staged. -/
def staged (c : Context) : State := { chamber with agenda := [plain, c] }

theorem staged_agrees (c : Context) : (staged c).FloorAgrees :=
  { chamber_agrees with
    agenda := Nat.le_refl 2
    closed := ⟨fun h => (by cases h), fun h => (by cases h)⟩ }

theorem witness_Changeover :
    ((sent (staged plain) 5 []).Dispatching 9 .advanceItem [] ∧ plain.carryFloor = true ∧ (staged plain).floor = .opened) ∧
      (sent (staged plain) 5 []).FloorAgrees ∧ { plain with carryFloor := false }.carryFloor = false :=
  ⟨⟨sent_dispatching, rfl, rfl⟩, (staged_agrees plain).of_same, rfl⟩

/-- A changeover with carry: a grant that survives under a shorter limit, one that does not, an entry beyond a list limit of 0, and a
timer at 0 that expires. -/
theorem witness_Changeover_carry :
    chamber.survivors { plain with limit := 10 } = [{ chan := .c1, seat := 1 }] ∧
      chamber.timeUnder { plain with limit := 10 } { chan := .c1, seat := 1 } = some 5000 ∧
      chamber.survivors { plain with admitted := { plain.admitted with delegate := false } } = [] ∧
      chamber.entriesKept { plain with listLimit := 0 } = [] ∧
      (timed 0 true).expiredUnder plain { chan := .c1, seat := 1 } = true := by decide +kernel

theorem witness_FlushAgenda :
    (sent State.reset 6 []).Dispatching 9 .flushAgenda [] ∧
      ((sent heldChamber 6 []).Dispatching 9 .flushAgenda [] ∧ (sent heldChamber 6 []).FloorAgrees ∧
        heldChamber.settings.agendaEmpty = .keep) ∧
      ((sent closing 6 []).Dispatching 9 .flushAgenda [] ∧ closing.settings.agendaEmpty = .close) ∧
      ((sent { heldChamber with settings := closing.settings } 6 []).Dispatching 9 .flushAgenda [] ∧
        (sent { heldChamber with settings := closing.settings } 6 []).FloorAgrees) :=
  ⟨sent_dispatching,
    ⟨sent_dispatching, heldChamber_agrees.of_same, rfl⟩,
    ⟨sent_dispatching, rfl⟩, sent_dispatching, heldChamber_agrees.of_same⟩

/-- A masked notice, one of no group, a queue with one place left and a full one, and a notice fully sent. -/
theorem witness_RaisedNotice :
    ((Notice.seatFound 5).group = some 4 ∧
      { chamber.settings with noticeMask := 0x2F#8 }.noticeMask.getLsbD 4 = false ∧ chamber.settings.noticeMask.getLsbD 4 = true) ∧
      (Notice.trunkUp 5).group = none ∧ (List.replicate 31 (Notice.trunkUp 5)).length < 32 ∧
      32 ≤ (List.replicate 32 (Notice.trunkUp 5)).length ∧
      ({ chamber with sending := some { source := .notice, rest := [] }, overrun := true }.overrun = true ∧
        chamber.overrun = false) := by decide +kernel

theorem witness_Messages :
    (chamber.link = .locked ∧ chamber.sending = none ∧ chamber.replies = [] ∧ chamber.notices = []) ∧
      { chamber with replies := [{ tag := 1, body := .done }] }.replies = { tag := 1, body := .done } :: [] ∧
      { chamber with notices := [.seatFound 5] }.notices = .seatFound 5 :: [] ∧ State.reset.link = .unlocked ∧
      { chamber with sending := some { source := .reply, rest := [] } }.sending = some { source := .reply, rest := [] } ∧
      { chamber with sending := some { source := .apart, rest := [] } }.sending = some { source := .apart, rest := [] } := by
  decide +kernel

/-- Free space at each boundary: exactly the message's, one byte short of it, exactly a header's, one byte short of that. -/
theorem witness_MessageHeader :
    { chamber with rx := .header [7, 1, 1] false }.rx = .header [7, 1, 1] false ∧
      { chamber with rx := .header [7, 1, 0] true }.rx = .header [7, 1, 0] true ∧ 0 = min (0 : Byte).toNat 250 ∧ 1 = min (1 : Byte).toNat 250 ∧
      (sent chamber 4 (List.replicate 1017 0)).bytesHeld + 3 + 1 = 1024 ∧
      (sent chamber 4 (List.replicate 1018 0)).bytesHeld + 3 = 1024 ∧
      1024 < (sent chamber 4 (List.replicate 1019 0)).bytesHeld + 3 ∧ 250 = min (251 : Byte).toNat 250 := by decide +kernel

/-- The second of two entries, the first of them decoded. -/
theorem witness_DirectivesAreDecoded :
    ∃ before after e, (∀ b ∈ before, b.complete = false ∨ b.skip = true ∨ b.decoded.isSome = true) ∧ e.complete = true ∧
      e.skip = false ∧ e.decoded = none ∧
      { chamber with buffer := before ++ e :: after }.buffer = before ++ e :: after ∧ before ≠ [] :=
  ⟨[{ kind := 7, tag := 1, len := 1, skip := false, body := [5], complete := true, decoded := some (.accepted (.grant 5)) }],
    [], { kind := 7, tag := 2, len := 1, skip := false, body := [5], complete := true, decoded := none },
    by decide, rfl, rfl, rfl, rfl, by decide⟩

theorem witness_HeaderNotThere : ∀ k g l d, chamber.rx ≠ .header [k, g, l] d := fun _ _ _ _ h => (by cases h)

/-- Kinds and lengths at the edges of the table. -/
theorem witness_DecodingChecks :
    16 < (17 : Byte).toNat ∧ ((7 : Byte).toNat, 1) ∈ [(7, 1)] ∧ (2 : Byte).toNat ≠ 1 ∧
      ([1] : List Byte).length < 2 ∧ 250 < (251 : Byte).toNat ∧ (16, Directive.restart) ∈ [(16, Directive.restart)] := by decide

/-- The fields of each directive at the ends of their values: accepted, clamped and refused. -/
theorem witness_DirectiveFields :
    ((List.replicate 48 ({ enabled := 1, cls := 3, keyAction := 1, level1 := 255, level2 := 255 } : SeatEntryBytes)).length =
        (48 : Byte).toNat ∧ 2 + 5 * (48 : Byte).toNat ≤ 250 ∧ (242 : Byte).toNat = 2 + 5 * (48 : Byte).toNat ∧
      (153 : Byte).toNat + (48 : Byte).toNat ≤ 201 ∧ 201 < (154 : Byte).toNat + (48 : Byte).toNat) ∧
      decodeMessage 1 7 [200, 1, 1, 3, 1, 255, 255] =
        .accepted (.loadSeats 200 [{ enabled := true, cls := .observer, keyAction := .hold, level := 32768 }]) ∧
      decodeMessage 1 7 [200, 1, 2, 3, 1, 255, 255] = .refused .badValue ∧
      (decodeMessage 2 2 [153, 48] = .accepted (.readSeats 153 48) ∧ decodeMessage 2 2 [154, 48] = .refused .badValue) ∧
      decodeMessage 3 10 [8, 255, 0, 2, 0, 251, 1, 1, 0, 63] = .accepted (.setGeneral {
        settings := { filterDepth := 8, presenceTimeout := 250, auditTolerance := 1, rampLength := 512, lockout := 250,
                      agendaEmpty := .close, noticeMask := 63 }, rotation := some 1 }) ∧
      decodeMessage 3 10 [3, 50, 4, 0, 64, 100, 0, 0, 0, 63] = .refused .badValue ∧
      decodeMessage 4 19 [0, 0, 4, 1, 0, 0, 0, 0, 0, 0, 0, 0, 0, 1, 0, 0, 0, 0, 0] = .refused .badValue ∧
      (decodeMessage 13 3 [200, 14, 17] = .accepted (.extend 200 3600) ∧ decodeMessage 13 3 [201, 0, 1] = .refused .badValue) := by
  decide +kernel

theorem witness_UnownedEntries :
    (∃ e, { chamber with buffer := [e] }.buffer = e :: [] ∧ e.complete = true ∧ e.skip = true) ∧
      (∃ e, (sent chamber 17 []).buffer = e :: [] ∧ e.complete = true ∧ e.skip = false ∧ 16 < e.kind.toNat) ∧
      (chamber.replies.length < 4) ∧ 4 ≤ (List.replicate 4 ({ tag := 1, body := .done } : Reply)).length :=
  ⟨⟨{ kind := 7, tag := 1, len := 1, skip := true, body := [], complete := true, decoded := none }, rfl, rfl, rfl⟩,
    ⟨_, rfl, rfl, rfl, by decide⟩, by decide +kernel, by decide⟩

theorem witness_RefusedDirective :
    dispatchOf 7 = some .grant ∧ (sent chamber 7 [201]).DispatchingRefused 7 9 .badValue [] :=
  ⟨rfl, by decide +kernel, _, rfl, by decide +kernel⟩

theorem witness_SetGeneral :
    (sent chamber 3 [2, 50, 4, 0, 64, 100, 0, 1, 0, 0x3F]).Dispatching 9
      (.setGeneral { settings := Settings.reset, rotation := some 1 }) [] := sent_dispatching

theorem witness_Restart :
    (sent chamber 16 []).Dispatching 9 .restart [] ∧
      ({ sent chamber 16 [] with rx := .body 3 .whole }.rx = .body 3 .whole ∧
        { sent chamber 16 [] with rx := .header [7] false }.rx = .header [7] false ∧ (sent chamber 16 []).rx = .between) :=
  ⟨sent_dispatching, rfl, rfl, rfl⟩

/-- A record under way that a RESTART may have discarded before, one under way that none can have, and one of which nothing has come
back. -/
theorem witness_Restart_scan :
    ((sent (remembering (.taking (sweepZero 119).reverse)) 16 []).scan = .taking (sweepZero 119).reverse ∧
      (remembering .seeking).discarded = [] ++ { number := 0, bytes := 120 } :: [{ number := 1, bytes := 20 }] ∧
      ({ number := 0, bytes := 120 } : Discarded).MayBe (sweepZero 119).reverse) ∧
      (∀ d ∈ (remembering .seeking).discarded, ¬d.MayBe (sweepZero 120).reverse) ∧
      (sent (scanning (.finished 3)) 16 []).scan = .finished 3 ∧
      ((scanning .seeking).awaiting = some 0 ∧ (scanning .seeking).scan = .seeking ∧ (scanning .seeking).stream.length < 804) ∧
      (chamber.awaiting = none ∧ chamber.scan = .seeking) := by decide +kernel

/-- A state that meets every law, with people on the floor, and a command that runs in it. -/
theorem witness_laws :
    (chamber.QueuesInBounds ∧ chamber.InputSound ∧ chamber.InRange ∧ chamber.FreeIsSilent) ∧ chamber.FloorAgrees ∧
      chamber.FloorFits ∧
      step { sent chamber 7 [5] with pending := [.grant] } = .next (after .grant (sent chamber 7 [5])) :=
  ⟨⟨by decide +kernel, by decide +kernel, by decide +kernel, by decide +kernel⟩, chamber_agrees, chamber_fits, rfl⟩

theorem witness_OnlyOwners :
    exec .seatLost chamber = .next (after .seatLost chamber) ∧ Instr.seatLost ≠ .pinReset ∧ Instr.seatLost ≠ .restart :=
  ⟨rfl, by decide, by decide⟩

end Sys2Proof.Tests
end

/-! # The chamber chain: the laws its proofs need, and the statements they settle -/

section
/-! ## What the floor's operations are made of -/

namespace Sys2Proof.Machine

/-- `t` is reached from `s` by the elementary updates that the operations of the floor arbiter and the channel unit are made of.
A channel record is replaced by one that is in range where the old one and the stored contexts are; an entry of the waiting list is
an old one or bears a sweep number in range. -/
inductive State.Moves : State → State → Prop
  | refl (s : State) : State.Moves s s
  | trans {s t u : State} : State.Moves s t → State.Moves t u → State.Moves s u
  | chan (s : State) (c : Chan) (r : Channel)
      (h : (∀ a ∈ s.agenda, a.InRange) → (s.chan c).InRange → r.InRange) : State.Moves s (s.setChan c r)
  | place (s : State) (n : Nat) (p : Place) (b : Option Chan) : State.Moves s (s.setPlace n p b)
  | notice (s : State) (x : Notice) : State.Moves s (s.raise x)
  | floor (s : State) (f : Floor) : State.Moves s { s with floor := f }
  | waiting (s : State) (l : List WaitEntry) (h : ∀ e ∈ l, e ∈ s.waiting ∨ e.sweep ≤ 65535) :
      State.Moves s { s with waiting := l }
  | speakers (s : State) (l : List Speaker) : State.Moves s { s with speakers := l }
  | lockout (s : State) (n : Nat) : State.Moves s (s.loadLockout n)
  | timer (s : State) (c : Chan) : State.Moves s (s.stopTimer c)

/-! ### The operations, in the order of their definitions -/

theorem State.moves_foldl {α : Type} {f : State → α → State} (h : ∀ (s : State) (a : α), s.Moves (f s a)) (l : List α) (s : State) :
    s.Moves (l.foldl f s) := by
  induction l generalizing s with
  | nil => exact .refl s
  | cons a l ih => exact (h s a).trans (ih _)

theorem State.moves_appendSpeaker (s : State) (c : Chan) (n : Nat) : s.Moves (s.appendSpeaker c n) := by
  unfold State.appendSpeaker; split <;> [exact .speakers _ _; exact .refl _]

theorem State.moves_removeSpeaker (s : State) (c : Chan) : s.Moves (s.removeSpeaker c) := by
  unfold State.removeSpeaker; split <;> [exact .speakers _ _; exact .refl _]

/-- Entries only leave the waiting list. -/
theorem State.moves_filterWaiting (s : State) (p : WaitEntry → Bool) : s.Moves { s with waiting := s.waiting.filter p } :=
  .waiting s _ fun _ he => .inl (List.mem_of_mem_filter he)

theorem State.moves_removeWaiting (s : State) (n : Nat) (r : Reason) : s.Moves (s.removeWaiting n r) :=
  ((s.moves_filterWaiting _).trans (.place _ _ _ _)).trans (.notice _ _)

theorem State.moves_clearWaiting (s : State) (r : Reason) : s.Moves (s.clearWaiting r) :=
  State.moves_foldl (fun s (e : WaitEntry) => s.moves_removeWaiting e.seat r) _ _

theorem State.moves_insertWaiting (s : State) (n : Nat) {k : Nat} (i : Nat) (hk : k ≤ 65535) :
    s.Moves (s.insertWaiting n k i) := by
  refine ((State.Moves.waiting s _ fun e he => ?_).trans (.place _ _ _ _)).trans (.notice _ _)
  obtain rfl | he := List.eq_or_mem_of_mem_insertIdx he
  · exact .inr hk
  · exact .inl he

theorem State.moves_joinList (s : State) (c : Context) (n : Nat) {k : Nat} (hk : k ≤ 65535) : s.Moves (s.joinList c n k) := by
  unfold State.joinList
  split
  · exact .notice _ _
  · split
    · exact s.moves_insertWaiting n _ hk
    · exact .notice _ _

theorem State.moves_raiseGrantWarning (s : State) (c : Chan) (n : Nat) (r : Option Nat) (w : Bool) :
    s.Moves (s.raiseGrantWarning c n r w) := by
  unfold State.raiseGrantWarning
  split
  · exact .refl _
  · split <;> [exact .notice _ _; exact .refl _]

/-- R65, R105: an allowance is at most 3,600 s. -/
theorem Context.allowance_le {c : Context} (h : c.limit ≤ 3600) (k : SeatClass) : (c.allowance k).getD 0 ≤ 1800000 := by
  unfold Context.allowance
  split
  · simp
  · split
    · simp
    · simp only [Config.intervalsPerSecond, Option.getD_some]; omega

/-- R105: the remaining time of a Grant is in range where the stored contexts are. -/
theorem State.grantTime_le {s : State} (h : ∀ a ∈ s.agenda, a.InRange) (c : Chan) (n : Nat) :
    (s.grantTime c n).getD 0 ≤ 1800000 := by
  unfold State.grantTime
  split
  · simp
  · next ctx hc =>
    obtain ⟨-, -, -, hl, -⟩ := h ctx (List.mem_of_head? hc)
    split
    · exact Context.allowance_le hl _
    · simp

theorem State.moves_grant (s : State) (c : Chan) (n : Nat) (l : Bool) : s.Moves (s.grant c n l) :=
  ((((State.Moves.chan s c _ fun ha _ => ⟨State.grantTime_le ha c n, Nat.zero_le _⟩).trans
    (.place _ _ _ _)).trans (State.moves_appendSpeaker _ _ _)).trans (.notice _ _)).trans
    (State.moves_raiseGrantWarning _ _ _ _ _)

theorem State.moves_release (s : State) (c : Chan) (n : Nat) (r : Reason) : s.Moves (s.release c n r) := by
  have h1 := (State.Moves.chan s c
    { state := .releasing, seat := none, remaining := none, warned := false, held := (s.chan c).held }
    fun _ h => ⟨Nat.zero_le _, h.2⟩).trans (.timer _ c)
  have h2 := (h1.trans (.place _ n .idle none)).trans (State.moves_removeSpeaker _ c)
  unfold State.release
  split
  · exact h2.trans (.notice _ _)
  · exact (h2.trans (.lockout _ n)).trans (.notice _ _)

theorem State.moves_releaseSpeakers (s : State) (r : Reason) : s.Moves (s.releaseSpeakers r) :=
  State.moves_foldl (fun s (e : Speaker) => s.moves_release e.chan e.seat r) _ _

theorem State.moves_grantHeads (k : Nat) (s : State) : s.Moves (State.grantHeads k s) := by
  induction k generalizing s with
  | zero => exact .refl s
  | succ k ih =>
    unfold State.grantHeads
    split
    · next e rest c hw hr =>
      have h := State.Moves.waiting s rest fun x hx => .inl (hw ▸ List.mem_cons_of_mem e hx)
      exact (h.trans (State.moves_grant _ _ _ _)).trans (ih _)
    · exact .refl s

theorem State.moves_fill (s : State) : s.Moves s.fill := by
  unfold State.fill; split <;> [exact s.moves_grantHeads _; exact .refl s]

theorem State.moves_endOrdinary (s : State) (c : Chan) (n : Nat) (r : Reason) : s.Moves (s.endOrdinary c n r) :=
  (s.moves_release c n r).trans (State.moves_fill _)

theorem State.moves_endSpeakers (s : State) (r : Reason) : s.Moves (s.endSpeakers r) :=
  State.moves_foldl (fun s (e : Speaker) => s.moves_endOrdinary e.chan e.seat r) _ _

theorem State.moves_applyPriorityEnd (s : State) (e : PriorityEnd) : s.Moves (s.applyPriorityEnd e) := by
  cases e <;> [exact .refl s; exact s.moves_endSpeakers _]

theorem State.moves_endIntervention (s : State) (n : Nat) : s.Moves (s.endIntervention n) := by
  unfold State.endIntervention
  split
  · exact .floor _ _
  · exact (((State.Moves.floor s .opened).trans (.notice _ _)).trans (State.moves_applyPriorityEnd _ _)).trans
      (State.moves_fill _)

theorem State.moves_endPriority (s : State) (n : Nat) (r : Reason) : s.Moves (s.endPriority n r) :=
  (s.moves_release .p n r).trans (State.moves_endIntervention _ _)

theorem State.moves_endSeat (s : State) (n : Nat) (r : Reason) : s.Moves (s.endSeat n r) := by
  unfold State.endSeat
  split
  · exact .refl s
  · exact s.moves_endPriority n r
  · exact s.moves_endOrdinary _ n r

theorem State.moves_insertHead (s : State) (c : Context) (n : Nat) {k : Nat} (hk : k ≤ 65535) :
    s.Moves (s.insertHead c n k) := by
  unfold State.insertHead
  split
  · exact s.moves_insertWaiting n 0 hk
  · split
    · exact s.moves_insertWaiting n 0 hk
    · exact (s.moves_removeWaiting _ _).trans (State.moves_insertWaiting _ n 0 hk)

theorem State.moves_serveDisplacer (s : State) (c : Context) (n : Nat) {k : Nat} (hk : k ≤ 65535) :
    s.Moves (s.serveDisplacer c n k) := by
  unfold State.serveDisplacer
  split
  · exact (s.moves_grant _ n false).trans (State.moves_fill _)
  · exact (s.moves_insertHead c n hk).trans (State.moves_fill _)

theorem State.moves_displace (s : State) (c : Context) (n : Nat) {k : Nat} (hk : k ≤ 65535) : s.Moves (s.displace c n k) := by
  unfold State.displace
  split
  · exact s.moves_joinList c n hk
  · split
    · exact .notice _ _
    · exact (s.moves_release _ _ _).trans (State.moves_serveDisplacer _ c n hk)

theorem State.moves_requestOpen (s : State) (c : Context) (n : Nat) {k : Nat} (hk : k ≤ 65535) :
    s.Moves (s.requestOpen c n k) := by
  unfold State.requestOpen
  split
  · exact s.moves_grant _ n false
  · exact .notice _ _
  · split <;> [exact s.moves_grant _ n false; exact s.moves_joinList c n hk]
  · exact s.moves_joinList c n hk
  · exact s.moves_joinList c n hk
  · exact s.moves_grant _ n false
  · exact s.moves_displace c n hk

theorem State.moves_requestHeld (s : State) (c : Context) (n : Nat) {k : Nat} (hk : k ≤ 65535) :
    s.Moves (s.requestHeld c n k) := by
  unfold State.requestHeld; split <;> [exact .notice _ _; exact s.moves_joinList c n hk]

theorem State.moves_judgeRequest (s : State) (n : Nat) {k : Nat} (hk : k ≤ 65535) : s.Moves (s.judgeRequest n k) := by
  unfold State.judgeRequest
  split
  · exact .notice _ _
  split
  · exact .notice _ _
  split
  · split
    · exact .refl s
    · split <;> [exact s.moves_requestHeld _ n hk; exact s.moves_requestOpen _ n hk]
  · exact .notice _ _

theorem State.moves_judgeWithdraw (s : State) (n : Nat) : s.Moves (s.judgeWithdraw n) := by
  unfold State.judgeWithdraw
  split <;> [exact .refl s; exact s.moves_removeWaiting n _; exact s.moves_endSeat n _]

theorem State.moves_takeNext (s : State) : s.Moves s.takeNext := by
  unfold State.takeNext
  split
  · exact .refl s
  · split <;> [exact s.moves_grantHeads _; exact s.moves_fill; exact s.moves_fill; exact .refl s]

theorem State.moves_cancelFloor (s : State) : s.Moves s.cancelFloor :=
  (s.moves_clearWaiting _).trans (State.moves_endSpeakers _ _)

theorem State.moves_escalate (s : State) (n : Nat) : s.Moves (s.escalate n) := by
  unfold State.escalate
  split <;> [exact .refl s; exact s.moves_removeWaiting n _; exact s.moves_endSeat n _]

theorem State.moves_startPriority (s : State) (n : Nat) : s.Moves (s.startPriority n) :=
  (((s.moves_escalate n).trans (State.moves_grant _ .p n false)).trans (.floor _ _)).trans (.notice _ _)

theorem State.moves_judgePriorityHeld (s : State) (n : Nat) : s.Moves (s.judgePriorityHeld n) := by
  unfold State.judgePriorityHeld; split <;> [exact s.moves_startPriority n; exact .refl s]

theorem State.moves_judgePriorityReleased (s : State) (n : Nat) : s.Moves (s.judgePriorityReleased n) := by
  unfold State.judgePriorityReleased; split <;> [exact s.moves_endPriority n _; exact .refl s]

theorem State.moves_takeOff (s : State) (l : List Nat) (r : Reason) : s.Moves (s.takeOff l r) :=
  (State.moves_foldl (fun s n => s.moves_removeWaiting n r) _ s).trans
    (State.moves_foldl (fun s n => s.moves_endSeat n r) _ _)

theorem State.moves_endHolder (s : State) (r : Reason) : s.Moves (s.endHolder r) := by
  unfold State.endHolder; split <;> [exact s.moves_endPriority _ r; exact .refl s]

theorem State.moves_breakFloor (s : State) : s.Moves s.breakFloor :=
  ((s.moves_clearWaiting _).trans (State.moves_endSpeakers _ _)).trans (State.moves_endHolder _ _)

theorem State.moves_judgeNext (s : State) : s.Moves s.judgeNext := by
  unfold State.judgeNext; split <;> [exact s.moves_takeNext; exact .refl s]

theorem State.moves_judgeCancel (s : State) : s.Moves s.judgeCancel := by
  unfold State.judgeCancel; split <;> [exact .refl s; exact s.moves_cancelFloor]

theorem State.moves_answer (s : State) (a : KeyAct) (n : Nat) {k : Nat} (hk : k ≤ 65535) : s.Moves (s.answer a n k) := by
  cases a
  · exact s.moves_judgeRequest n hk
  · exact s.moves_judgeWithdraw n
  · exact s.moves_judgeNext
  · exact s.moves_judgeCancel
  · exact s.moves_judgePriorityHeld n
  · exact s.moves_judgePriorityReleased n

/-! ### Changeover, closing and timers -/

theorem State.moves_clearFloor (s : State) (r : Reason) : s.Moves (s.clearFloor r) :=
  (s.moves_releaseSpeakers r).trans (State.moves_clearWaiting _ r)

theorem State.moves_releaseHolder (s : State) (r : Reason) : s.Moves (s.releaseHolder r) := by
  unfold State.releaseHolder; split <;> [exact s.moves_release .p _ r; exact .refl s]

theorem State.moves_raiseFitWarning (s : State) (e : Speaker) (b a : Bool) (r : Option Nat) :
    s.Moves (s.raiseFitWarning e b a r) := by
  unfold State.raiseFitWarning
  split
  · exact .refl s
  · split <;> [exact .notice _ _; exact .refl s]

/-- R65: a fitted time is at most the allowance. -/
theorem fitRemaining_le (a b : Option Nat) : (fitRemaining a b).getD 0 ≤ a.getD 0 := by
  cases a <;> cases b <;> simp [fitRemaining]

theorem State.moves_fitTimer (s : State) {c : Context} (hc : c.limit ≤ 3600) (e : Speaker) : s.Moves (s.fitTimer c e) := by
  unfold State.fitTimer State.meetExpiry
  have h1 := (State.Moves.chan s e.chan
    { s.chan e.chan with
      remaining := fitRemaining (c.allowance (s.classOf e.seat)) (s.chan e.chan).remaining,
      warned := c.warnedAt (fitRemaining (c.allowance (s.classOf e.seat)) (s.chan e.chan).remaining) }
    fun _ h => ⟨(fitRemaining_le _ _).trans (Context.allowance_le hc _), h.2⟩)
  have h2 := h1.trans (State.moves_raiseFitWarning _ e (s.chan e.chan).warned
    (c.warnedAt (fitRemaining (c.allowance (s.classOf e.seat)) (s.chan e.chan).remaining))
    (fitRemaining (c.allowance (s.classOf e.seat)) (s.chan e.chan).remaining))
  simp only
  split
  · exact h2.trans (State.moves_release _ _ _ _)
  · exact h2

theorem State.moves_carryFloor (s : State) {c : Context} (hc : c.limit ≤ 3600) : s.Moves (s.carryFloor c) := by
  have release (r : Reason) (l : List Speaker) (t : State) :
      t.Moves (l.foldl (fun s e => s.release e.chan e.seat r) t) :=
    State.moves_foldl (fun s (e : Speaker) => s.moves_release e.chan e.seat r) l t
  have remove (r : Reason) (l : List WaitEntry) (t : State) : t.Moves (l.foldl (fun s e => s.removeWaiting e.seat r) t) :=
    State.moves_foldl (fun s (e : WaitEntry) => s.moves_removeWaiting e.seat r) l t
  have direct (t : State) : t.Moves (t.fitDirect c) := by
    unfold State.fitDirect; split <;> [exact t.moves_clearWaiting _; exact .refl t]
  exact (((((release _ _ s).trans (release _ _ _)).trans (remove _ _ _)).trans (direct _)).trans (remove _ _ _)).trans
    (State.moves_foldl (fun s (e : Speaker) => s.moves_fitTimer hc e) _ _)

theorem State.moves_changeover (s : State) {c : Context} (hc : c.limit ≤ 3600) : s.Moves (s.changeover c) := by
  unfold State.changeover
  split
  · exact ((s.moves_carryFloor hc).trans (.notice _ _)).trans (State.moves_fill _)
  · exact ((s.moves_clearFloor _).trans (.notice _ _)).trans (State.moves_fill _)

theorem State.moves_warnAfter (s : State) (x : Context) (c : Chan) (n r : Nat) : s.Moves (s.warnAfter x c n r) := by
  unfold State.warnAfter
  split
  · exact (State.Moves.chan s c { s.chan c with warned := true } fun _ h => h).trans (.notice _ _)
  · exact .refl s

theorem State.moves_expireAfter (s : State) (x : Context) (c : Chan) (n : Nat) : s.Moves (s.expireAfter x c n) := by
  unfold State.expireAfter
  split
  · exact s.moves_endOrdinary c n _
  · exact (State.Moves.chan s c { s.chan c with warned := true } fun _ h => h).trans (.notice _ _)

/-- R115: a decrement lowers the remaining time. -/
theorem State.moves_countDown (s : State) (x : Context) (c : Chan) (n : Nat) {r : Nat} (hr : (s.chan c).remaining = some (r + 1)) :
    s.Moves (s.countDown x c n r) := by
  have h1 := (State.Moves.chan s c { s.chan c with remaining := some r } fun _ h => ⟨by
      have := h.1; rw [hr] at this; simp only [Option.getD_some] at this ⊢; omega, h.2⟩).trans
    (State.moves_warnAfter _ x c n r)
  unfold State.countDown
  simp only
  split
  · exact h1.trans (State.moves_expireAfter _ x c n)
  · exact h1

theorem State.moves_tick (s : State) (c : Chan) : s.Moves (s.tick c) := by
  have h := State.Moves.timer s c
  unfold State.tick
  simp only
  split
  · next hr =>
    split
    · exact h
    · exact h.trans (State.moves_countDown _ _ c _ (by simpa [State.stopTimer] using hr))
  · exact h

/-! ### What the elementary updates keep -/

theorem State.Moves.frozen {s t : State} (h : s.Moves t) : t.frozen = s.frozen := by
  induction h with
  | refl => rfl
  | trans _ _ h1 h2 => exact h2.trans h1
  | lockout => simp
  | place => simp
  | notice => simp
  | chan | floor | waiting | speakers | timer => rfl

/-- A step that is due falls away and none becomes due. -/
theorem State.Moves.owed_subset {s t : State} (h : s.Moves t) :
    t.owed.lockouts ⊆ s.owed.lockouts ∧ t.owed.timers ⊆ s.owed.timers := by
  induction h with
  | trans _ _ h1 h2 => exact ⟨fun _ h => h1.1 (h2.1 h), fun _ h => h1.2 (h2.2 h)⟩
  | lockout => exact ⟨List.filter_subset_self _, by simp [State.loadLockout]⟩
  | timer => exact ⟨fun _ h => h, List.filter_subset_self _⟩
  | place => simp
  | notice => simp
  | refl | chan | floor | waiting | speakers => exact ⟨fun _ h => h, fun _ h => h⟩

end Sys2Proof.Machine
end

section
/-! ## What the steps of the chain leave unchanged -/

namespace Sys2Proof.Machine

/-! ### The message unit

A part of the state is blanked and the rest compared: an operation that leaves the blanked state leaves the rest. -/

/-- A state without the incoming stream and the input buffer. -/
def State.sansInput (s : State) : State := { s with rx := .between, buffer := [] }

/-- A state without the outgoing stream and the queues it is fed from. -/
def State.sansOutput (s : State) : State :=
  { s with sending := none, replies := [], notices := [], overrun := false, lostCount := 0 }

/-- A state without the outgoing stream and the head frame that carries it. -/
def State.sansHeadOut (s : State) : State := { s.sansOutput with headOut := [] }

/-- A state without what an unlock of the head link can reach. -/
def State.sansUnlock (s : State) : State :=
  { s.sansInput.sansOutput with link := .unlocked, lockCount := 0, owed := { s.owed with unlock := false } }

/-- A state without the scan of trunk-return, what it looks for and what it finds. -/
def State.sansScan (s : State) : State :=
  { s with scan := .seeking, awaiting := none, discarded := [], owed := { s.owed with returned := none } }

theorem State.sansInput_eq {s t : State} (h : t.sansInput = s.sansInput) : t = { s with rx := t.rx, buffer := t.buffer } := by
  cases s; cases t
  simp only [State.sansInput, State.mk.injEq] at h ⊢
  simp [h]

theorem State.sansOutput_eq {s t : State} (h : t.sansOutput = s.sansOutput) :
    t = { s with sending := t.sending, replies := t.replies, notices := t.notices, overrun := t.overrun,
                 lostCount := t.lostCount } := by
  cases s; cases t
  simp only [State.sansOutput, State.mk.injEq] at h ⊢
  simp [h]

theorem State.sansHeadOut_eq {s t : State} (h : t.sansHeadOut = s.sansHeadOut) :
    t = { s with sending := t.sending, replies := t.replies, notices := t.notices, overrun := t.overrun,
                 lostCount := t.lostCount, headOut := t.headOut } := by
  cases s; cases t
  simp only [State.sansHeadOut, State.sansOutput, State.mk.injEq] at h ⊢
  simp [h]

theorem State.sansUnlock_eq {s t : State} (h : t.sansUnlock = s.sansUnlock) :
    t = { s with link := t.link, lockCount := t.lockCount, rx := t.rx, buffer := t.buffer, sending := t.sending,
                 replies := t.replies, notices := t.notices, overrun := t.overrun, lostCount := t.lostCount,
                 owed := { s.owed with unlock := t.owed.unlock } } := by
  have ho : t.owed = { s.owed with unlock := t.owed.unlock } := by
    have h1 : t.sansUnlock.owed = s.sansUnlock.owed := congrArg State.owed h
    simp only [State.sansUnlock, Owed.mk.injEq] at h1
    cases ht : t.owed
    simp_all
  cases s; cases t
  simp only [State.sansUnlock, State.sansOutput, State.sansInput, State.mk.injEq] at h ho ⊢
  simp only [h, true_and, and_true]
  exact ho

theorem State.sansScan_eq {s t : State} (h : t.sansScan = s.sansScan) :
    t = { s with scan := t.scan, awaiting := t.awaiting, discarded := t.discarded,
                 owed := { s.owed with returned := t.owed.returned } } := by
  have ho : t.owed = { s.owed with returned := t.owed.returned } := by
    have h1 : t.sansScan.owed = s.sansScan.owed := congrArg State.owed h
    simp only [State.sansScan, Owed.mk.injEq] at h1
    cases ht : t.owed
    simp_all
  cases s; cases t
  simp only [State.sansScan, State.mk.injEq] at h ho ⊢
  simp only [h, true_and, and_true]
  exact ho

@[simp] theorem State.sansInput_takeHeader (s : State) : s.takeHeader.sansInput = s.sansInput := by
  unfold State.takeHeader
  split
  · unfold State.judgeHeader State.addEntry
    simp only
    split
    · rfl
    split
    · rfl
    · split <;> rfl
  · rfl

@[simp] theorem State.sansInput_takeBodyByte (s : State) (b : Byte) (left : Nat) (use : BodyUse) :
    (s.takeBodyByte b left use).sansInput = s.sansInput := by cases use <;> rfl

@[simp] theorem State.sansInput_takeByte (s : State) (b : Byte) : (s.takeByte b).sansInput = s.sansInput := by
  rw [← s.sansInput_takeHeader]
  unfold State.takeByte
  simp only
  split
  · split <;> rfl
  · rfl
  · simp

@[simp] theorem State.sansOutput_departNotice (s : State) : s.departNotice.sansOutput = s.sansOutput := by
  unfold State.departNotice; split <;> rfl

@[simp] theorem State.sansOutput_finishMessage (s : State) : s.finishMessage.sansOutput = s.sansOutput := by
  unfold State.finishMessage
  split
  · rfl
  · simp; rfl
  · rfl
  · rfl

@[simp] theorem State.sansOutput_startMessage (s : State) : s.startMessage.sansOutput = s.sansOutput := by
  unfold State.startMessage
  split
  · split <;> rfl
  · rfl

@[simp] theorem State.sansOutput_readyByte (s : State) : s.readyByte.sansOutput = s.sansOutput := by simp [State.readyByte]

@[simp] theorem State.sansOutput_byteSent (s : State) : s.byteSent.sansOutput = s.sansOutput := by
  simp [State.byteSent]; rfl

/-! ### The parts of a frame period -/

@[simp] theorem State.sansScan_takeCandidate (s : State) (got : List Byte) (b : Byte) :
    (s.takeCandidate got b).sansScan = s.sansScan := by
  unfold State.takeCandidate
  split
  · unfold State.meetHeader
    split
    · rfl
    · split <;> rfl
  split
  · rfl
  · unfold State.judgeCandidate
    simp only
    split
    · rfl
    · split <;> rfl

@[simp] theorem State.sansScan_scanByte (s : State) (b : Byte) : (s.scanByte b).sansScan = s.sansScan := by
  unfold State.scanByte
  split
  · split <;> rfl
  · split
    · simp
    · split <;> [rfl; simp]
  · rfl
  · rfl

@[simp] theorem State.sansScan_scanGap (s : State) : s.scanGap.sansScan = s.sansScan := by
  unfold State.scanGap
  split
  · rfl
  · split <;> rfl
  · rfl
  · rfl

@[simp] theorem State.sansScan_scanFrame (s : State) (r : Option (List Byte)) : (s.scanFrame r).sansScan = s.sansScan := by
  cases r with
  | none => exact s.sansScan_scanGap
  | some b =>
    simp only [State.scanFrame]
    induction streamOf b generalizing s with
    | nil => rfl
    | cons x l ih => rw [List.foldl_cons, ih, State.sansScan_scanByte]

@[simp] theorem State.sansHeadOut_sendHeadFrame (s : State) (x : PerChan Sample) :
    (s.sendHeadFrame x).sansHeadOut = s.sansHeadOut := by
  unfold State.sendHeadFrame
  split
  · have h : s.readyByte.byteSent.readyByte.byteSent.sansOutput = s.sansOutput := by simp
    exact (congrArg State.sansHeadOut h : _)
  · rfl

/-- A state without what an incoming head frame or its absence can reach. -/
def State.sansHeadIn (s : State) : State :=
  { s.sansInput with program := (0, 0), lockCount := 0, owed := { s.owed with unlock := false } }

@[simp] theorem State.sansHeadIn_headIn (s : State) (h : Option (List Byte)) : (s.headIn h).sansHeadIn = s.sansHeadIn := by
  cases h with
  | none => simp only [State.headIn, State.missHeadFrame]; split <;> rfl
  | some b =>
    simp only [State.headIn, State.takeHeadFrame]
    split
    · have h1 := congrArg State.sansHeadIn (({ s with program := programOf b }).sansInput_takeByte (messageBytesOf b).1)
      exact (congrArg State.sansHeadIn (State.sansInput_takeByte _ (messageBytesOf b).2)).trans h1
    · rfl

/-- A state without what a frame period itself can reach: the frames, the scan, the gains, the head interface and the message
streams. -/
def State.sansFrame (s : State) : State :=
  { s.sansInput.sansHeadOut.sansScan with
    trunkOut := [], stream := [], frame := 0, gains := State.reset.gains, program := (0, 0), lockCount := 0,
    owed := { s.sansScan.owed with freed := [], unlock := false } }

theorem State.sansFrame_of_headOut {s t : State} (h : t.sansHeadOut = s.sansHeadOut) : t.sansFrame = s.sansFrame :=
  (congrArg State.sansFrame h : _)

theorem State.sansFrame_of_scan {s t : State} (h : t.sansScan = s.sansScan) : t.sansFrame = s.sansFrame :=
  (congrArg State.sansFrame h : _)

@[simp] theorem State.sansFrame_headIn (s : State) (h : Option (List Byte)) : (s.headIn h).sansFrame = s.sansFrame := by
  have h1 := s.sansHeadIn_headIn h
  generalize s.headIn h = t at h1 ⊢
  exact (congrArg State.sansFrame h1 : _)

@[simp] theorem State.sansFrame_framePeriod (s : State) (r h : Option (List Byte)) :
    (s.framePeriod r h).sansFrame = s.sansFrame := by
  rw [State.framePeriod, State.sansFrame_headIn, State.sansFrame_of_headOut (State.sansHeadOut_sendHeadFrame _ _)]
  exact (State.sansFrame_of_scan (s.emitFrame.sansScan_scanFrame r) : _)

theorem State.sansFrame_eq {s t : State} (h : t.sansFrame = s.sansFrame) :
    t = { s with trunkOut := t.trunkOut, stream := t.stream, frame := t.frame, scan := t.scan, discarded := t.discarded,
                 awaiting := t.awaiting, gains := t.gains, headOut := t.headOut, program := t.program, lockCount := t.lockCount,
                 rx := t.rx, buffer := t.buffer, replies := t.replies, notices := t.notices, overrun := t.overrun,
                 lostCount := t.lostCount, sending := t.sending,
                 owed := { s.owed with freed := t.owed.freed, unlock := t.owed.unlock, returned := t.owed.returned } } := by
  have ho : t.owed = { s.owed with freed := t.owed.freed, unlock := t.owed.unlock, returned := t.owed.returned } := by
    have h1 : t.sansFrame.owed = s.sansFrame.owed := congrArg State.owed h
    simp only [State.sansFrame, State.sansScan, Owed.mk.injEq] at h1
    cases ht : t.owed
    simp_all
  cases s; cases t
  simp only [State.sansFrame, State.sansScan, State.sansHeadOut, State.sansOutput, State.sansInput, State.mk.injEq] at h ho ⊢
  simp only [h, true_and, and_true]
  exact ho

/-! ### Losses, key actions, audit and return -/

/-- A state without what the loss and the return of sweeps and their consequences can reach: of the chain blocks it keeps the frames,
the sweep, the scan and the blink phase; and it keeps the head interface, the gains and the message streams. -/
def State.unswept (s : State) : State :=
  { s.frozen with
    trunk := .down, lostRun := 0, discarded := [], seats := [], rotation := 1, cursor := 0,
    owed := { s.frozen.owed with lostSweep := none, returned := none, actions := none, losses := [], audit := none } }

theorem State.unswept_of_frozen {s t : State} (h : t.frozen = s.frozen) : t.unswept = s.unswept := by
  unfold State.unswept; rw [h]

theorem State.unswept_foldl {α : Type} {f : State → α → State} (h : ∀ (s : State) (a : α), (f s a).unswept = s.unswept)
    (l : List α) (s : State) : (l.foldl f s).unswept = s.unswept := by
  induction l generalizing s with
  | nil => rfl
  | cons a l ih => simp [ih, h]

@[simp] theorem State.unswept_updSeat (s : State) (n : Nat) (f : Seat → Seat) : (s.updSeat n f).unswept = s.unswept := by
  cases n <;> rfl

@[simp] theorem State.unswept_raise (s : State) (x : Notice) : (s.raise x).unswept = s.unswept :=
  State.unswept_of_frozen (by simp)

@[simp] theorem State.unswept_declareLost (s : State) (k : Nat) : (s.declareLost k).unswept = s.unswept := by
  unfold State.declareLost
  simp only
  split
  · unfold State.breakTrunk
    rw [State.unswept_of_frozen (State.frozen_breakFloor _)]
    exact State.unswept_raise _ _
  · rfl

@[simp] theorem State.unswept_declareOwedLoss (s : State) : s.declareOwedLoss.unswept = s.unswept := by
  unfold State.declareOwedLoss
  split <;> [rfl; exact State.unswept_declareLost _ _]

@[simp] theorem State.unswept_spend (s : State) (k : KeySlot) : (s.spend k).unswept = s.unswept := by
  unfold State.spend; split <;> [simp; rfl]

@[simp] theorem State.unswept_keepSlots (s : State) (k : Nat) (l : List KeySlot) : (s.keepSlots k l).unswept = s.unswept := rfl

theorem State.unswept_presentSlots (k : Nat) (l : List KeySlot) (s : State) :
    (State.presentSlots k l s).unswept = s.unswept := by
  induction l generalizing s with
  | nil => rfl
  | cons x l ih =>
    unfold State.presentSlots
    split
    · simp [ih]
    · rw [ih, State.unswept_of_frozen (State.frozen_answer _ _ _ _), State.unswept_keepSlots]

@[simp] theorem State.unswept_presentAll (s : State) : s.presentAll.unswept = s.unswept := by
  unfold State.presentAll
  split
  · rfl
  · exact State.unswept_presentSlots _ _ s

@[simp] theorem State.unswept_takeLosses (s : State) : s.takeLosses.unswept = s.unswept := by
  unfold State.takeLosses State.loseSeats
  simp only
  rw [State.unswept_of_frozen (State.frozen_takeOff _ _ _), State.unswept_foldl (by simp)]
  rfl

/-- A report leaves the frozen part of the floor but for the reported seat and the cursor. -/
theorem State.frozen_removeReported (s : State) (n : Nat) : (s.removeReported n).frozen = s.frozen := by
  unfold State.removeReported; split <;> simp

@[simp] theorem State.unswept_reportOne (s : State) : s.reportOne.unswept = s.unswept := by
  unfold State.reportOne
  split
  · rfl
  · split
    · rfl
    · next n _ _ x _ =>
      rw [State.reportSeat, State.unswept_of_frozen (State.frozen_removeReported _ _)]
      exact ((s.raise (.discrepancy n x)).unswept_updSeat n Seat.reported).trans (State.unswept_raise _ _)

@[simp] theorem State.unswept_compareEntry (s : State) (e : AuditEntry) : (s.compareEntry e).unswept = s.unswept := by
  unfold State.compareEntry; split <;> simp

@[simp] theorem State.unswept_takeAudit (s : State) : s.takeAudit.unswept = s.unswept := by
  unfold State.takeAudit State.compareAll
  split
  · rfl
  · rw [State.unswept_reportOne, State.unswept_foldl (by simp)]; rfl

@[simp] theorem State.unswept_settleSweep (s : State) : s.settleSweep.unswept = s.unswept := by simp [State.settleSweep]

@[simp] theorem State.unswept_trunkReturned (s : State) (k : Nat) : (s.trunkReturned k).unswept = s.unswept := by
  unfold State.trunkReturned; split <;> [rfl; simp]
  rfl

@[simp] theorem State.unswept_handEntries (s : State) (k : Nat) (ups : List UpHalf) :
    (s.handEntries k ups).unswept = s.unswept :=
  (State.unswept_foldl (f := fun s n => s.raise (.seatFound n)) (by simp)
    (numbersOf (fun x => x.2.answered && !x.1.present) 1 (pairUp s.seats ups)) s : _)

@[simp] theorem State.unswept_closePresentation (s : State) : s.closePresentation.unswept = s.unswept := by
  unfold State.closePresentation; split <;> rfl

@[simp] theorem State.unswept_takeReturn (s : State) : s.takeReturn.unswept = s.unswept := by
  unfold State.takeReturn
  split
  · rfl
  · simp; rfl

/-- What a state without the reach of a settled sweep shows of the chain. -/
theorem State.unswept_chain {s t : State} (h : t.unswept = s.unswept) :
    t.frame = s.frame ∧ t.link = s.link ∧ t.lockCount = s.lockCount ∧ t.owed.unlock = s.owed.unlock ∧
      t.owed.freed = s.owed.freed ∧ t.owed.blink = s.owed.blink :=
  ⟨congrArg (·.frame) h, congrArg (·.link) h, congrArg (·.lockCount) h, congrArg (·.owed.unlock) h,
    congrArg (·.owed.freed) h, congrArg (·.owed.blink) h⟩

/-! ### The interval start -/

@[simp] theorem State.frozen_countHeld (s : State) : s.countHeld.frozen = s.frozen := rfl

@[simp] theorem State.frozen_countLockouts (s : State) : s.countLockouts.frozen = s.frozen := by
  have : (s.seats.map Seat.countLockout).map Seat.frozen = s.seats.map Seat.frozen := by
    rw [List.map_map]
    refine List.map_congr_left fun t _ => ?_
    simp only [Function.comp, Seat.countLockout]
    split <;> rfl
  simp [State.countLockouts, State.frozen, this]

@[simp] theorem State.frozen_countTimer (s : State) (c : Chan) : (s.countTimer c).frozen = s.frozen := by
  unfold State.countTimer; split <;> [rfl; simp]

@[simp] theorem State.frozen_countTimers (s : State) : s.countTimers.frozen = s.frozen := State.frozen_foldl _ (by simp) _ _

@[simp] theorem State.frozen_countInterval (s : State) : s.countInterval.frozen = s.frozen := by simp [State.countInterval]

@[simp] theorem State.frozen_takeLockout (s : State) (n : Nat) : (s.takeLockout n).frozen = s.frozen := by
  unfold State.takeLockout
  split
  · have h := s.frozen_updSeat n (fun t => { t with lockout := t.lockout - 1 }) fun _ => rfl
    rw [← h]
    cases n <;> rfl
  · rfl

@[simp] theorem State.frozen_takeLockouts (s : State) : s.takeLockouts.frozen = s.frozen := State.frozen_foldl _ (by simp) _ _

@[simp] theorem State.frozen_takeTimer (s : State) (c : Chan) : (s.takeTimer c).frozen = s.frozen := by
  unfold State.takeTimer; split <;> simp

@[simp] theorem State.frozen_takeTimers (s : State) : s.takeTimers.frozen = s.frozen := State.frozen_foldl _ (by simp) _ _

/-- R4 to R8: everything an emission does. -/
theorem State.emitSweep_eq (s : State) :
    s.emitSweep =
      { s with
        stream := recordOf s.blinkOn s.sweepNumber (s.seats.map s.compose),
        seats := s.seats.map fun (t : Seat) => t.emit (s.compose t),
        sweepNumber := (s.sweepNumber + 1) % 65536, lastEmitted := s.sweepNumber, awaiting := some s.sweepNumber,
        scan := s.scan.atEmission, frame := 0,
        blinkCount := if s.blinkCount < 124 then s.blinkCount + 1 else s.blinkCount,
        owed := { s.owed with lostSweep := s.awaiting, blink := s.owed.blink || decide (124 ≤ s.blinkCount) } } := by
  unfold State.emitSweep State.advanceBlink
  by_cases hb : s.blinkCount < 124
  · have hb' : s.blinkCount + 1 < 125 := by omega
    simp [hb, hb', Config.sweepModulus, Config.blinkPeriod, Nat.not_le.mpr hb]
  · have hb' : ¬s.blinkCount + 1 < 125 := by omega
    simp [hb, hb', Config.sweepModulus, Config.blinkPeriod, State.setOwed, Nat.not_lt.mp hb]

/-- With nothing due from the last interval, none of it is taken. -/
theorem State.settleInterval_of_settled {s : State} (h : s.IntervalSettled) : s.settleInterval = s := by
  obtain ⟨h1, h2, h3, h4, h5⟩ := h
  simp [State.settleInterval, State.takeBlink, State.takeLockouts, State.takeTimers, State.declareOwedLoss, State.takeReturn, *]

/-- What an interval start keeps of the head link and of what the last frame period made due, and that it begins the interval. -/
theorem State.startInterval_keeps (s : State) (o : IntervalOrder) :
    (s.startInterval o).link = s.link ∧ (s.startInterval o).lockCount = s.lockCount ∧
      (s.startInterval o).owed.unlock = s.owed.unlock ∧ (s.startInterval o).owed.freed = s.owed.freed ∧
      (s.startInterval o).frame = if s.frame = 96 then 0 else s.frame := by
  unfold State.startInterval
  by_cases hf : s.frame = Config.framesPerInterval
  swap
  · simp only [Config.framesPerInterval] at hf; simp [hf]
  rw [if_pos hf, if_pos hf]
  have hset : s.settleInterval.link = s.link ∧ s.settleInterval.lockCount = s.lockCount ∧
      s.settleInterval.owed.unlock = s.owed.unlock ∧ s.settleInterval.owed.freed = s.owed.freed := by
    have hb : s.takeBlink.link = s.link ∧ s.takeBlink.lockCount = s.lockCount ∧ s.takeBlink.owed.unlock = s.owed.unlock ∧
        s.takeBlink.owed.freed = s.owed.freed := by
      unfold State.takeBlink; split <;> exact ⟨rfl, rfl, rfl, rfl⟩
    have hu : s.settleInterval.unswept = s.takeBlink.unswept := by
      rw [State.settleInterval, State.unswept_takeReturn, State.unswept_declareOwedLoss]
      exact State.unswept_of_frozen (by simp)
    obtain ⟨-, h1, h2, h3, h4, -⟩ := State.unswept_chain hu
    rw [h1, h2, h3, h4]; exact hb
  generalize s.settleInterval = u at hset ⊢
  have key (v : State) (hv : v.frozen = u.frozen) :
      (v.emitSweep.link = s.link ∧ v.emitSweep.lockCount = s.lockCount ∧ v.emitSweep.owed.unlock = s.owed.unlock ∧
        v.emitSweep.owed.freed = s.owed.freed ∧ v.emitSweep.frame = 0) := by
    obtain ⟨-, h1, h2, h3, h4, -⟩ := State.unswept_chain (State.unswept_of_frozen hv)
    rw [State.emitSweep_eq]
    exact ⟨h1.trans hset.1, h2.trans hset.2.1, h3.trans hset.2.2.1, h4.trans hset.2.2.2, rfl⟩
  cases o with
  | countsFirst => exact key _ (by simp)
  | emissionFirst =>
    obtain ⟨h0, h1, h2, h3, h4, -⟩ := State.unswept_chain (State.unswept_of_frozen u.emitSweep.frozen_countInterval)
    simp only [State.beginInterval]
    rw [h0, h1, h2, h3, h4]
    exact key u rfl

end Sys2Proof.Machine
end

section
/-! ## The ranges: what every operation keeps in range -/

namespace Sys2Proof.Machine

theorem State.InRange.settings {s : State} (h : s.InRange) : s.settings.InRange := by
  obtain ⟨-, -, h, -⟩ := h; exact h

theorem State.InRange.agenda {s : State} (h : s.InRange) : ∀ c ∈ s.agenda, c.InRange := by
  obtain ⟨-, -, -, h, -⟩ := h; exact h

theorem State.InRange.seats {s : State} (h : s.InRange) : ∀ t ∈ s.seats, t.InRange := by
  obtain ⟨-, -, -, -, h, -⟩ := h; exact h

theorem State.InRange.awaiting {s : State} (h : s.InRange) : s.awaiting.getD 0 ≤ 65535 := by
  obtain ⟨⟨-, -, -, -, -, -, -, -, h, -⟩, -⟩ := h; exact h

theorem State.InRange.discarded {s : State} (h : s.InRange) : ∀ d ∈ s.discarded, d.number ≤ 65535 ∧ d.bytes ≤ 804 := by
  obtain ⟨⟨-, -, -, -, -, -, -, -, -, h⟩, -⟩ := h; exact h

theorem State.InRange.returned_le {s : State} (h : s.InRange) : (s.owed.returned.map ReturnedSweep.sweep).getD 0 ≤ 65535 := by
  obtain ⟨-, ⟨-, h, -⟩, -⟩ := h; exact h

theorem State.InRange.gain {s : State} (h : s.InRange) (c : Chan) : (s.gain c).InRange := by
  obtain ⟨-, -, -, -, -, -, h⟩ := h; exact h c (mem_allChans c)

theorem Seat.inRange_reset : Seat.reset.InRange := by decide

/-- A seat in range, under a number that may name none. -/
theorem State.InRange.seat {s : State} (h : s.InRange) (n : Nat) : (s.seat n).InRange := by
  cases n with
  | zero => exact Seat.inRange_reset
  | succ k =>
    simp only [State.seat, List.getD_eq_getElem?_getD]
    cases hk : s.seats[k]? with
    | none => exact Seat.inRange_reset
    | some t => exact h.seats t (List.mem_of_getElem? hk)

theorem Seat.InRange.lockout {t : Seat} (h : t.InRange) : t.lockout ≤ 250 := by
  obtain ⟨-, -, -, -, h, -⟩ := h; exact h

/-! ### Seats changed one by one -/

/-- The seats after one is changed: each an old one, or the changed one, which was there. -/
theorem State.mem_updSeat {s : State} {n : Nat} {f : Seat → Seat} {t : Seat} (h : t ∈ (s.updSeat n f).seats) :
    t ∈ s.seats ∨ (s.seat n ∈ s.seats ∧ t = f (s.seat n)) := by
  cases n with
  | zero => exact .inl h
  | succ k =>
    obtain ⟨i, hi⟩ := List.getElem?_of_mem h
    rw [State.updSeat, List.getElem?_modify] at hi
    cases hs : s.seats[i]? with
    | none => simp [hs] at hi
    | some u =>
      by_cases hk : k = i
      · subst hk
        have hseat : s.seat (k + 1) = u := by simp [State.seat, List.getD_eq_getElem?_getD, hs]
        simp only [hs, ↓reduceIte, Option.map_eq_map, Option.map_some, Option.some.injEq] at hi
        exact .inr ⟨hseat ▸ List.mem_of_getElem? hs, by rw [hseat, hi]⟩
      · simp only [hs, hk, ↓reduceIte, Option.map_eq_map, Option.map_some, Option.some.injEq] at hi
        exact .inl (hi ▸ List.mem_of_getElem? hs)

/-- What holds of every seat and of the changed one holds of every seat afterwards. -/
theorem State.forall_updSeat {s : State} {n : Nat} {f : Seat → Seat} {P : Seat → Prop} (h : ∀ t ∈ s.seats, P t)
    (hf : P (s.seat n) → P (f (s.seat n))) : ∀ t ∈ (s.updSeat n f).seats, P t := fun _ ht =>
  (State.mem_updSeat ht).elim (h _) fun ⟨hm, he⟩ => he ▸ hf (h _ hm)

/-! ### The elementary updates of the floor -/

/-- What of the ranges the floor's operations can reach, with the settings and contexts that bound what they write. -/
structure State.FloorRanges (s : State) : Prop where
  settings : s.settings.lockout ≤ 250
  agenda : ∀ a ∈ s.agenda, a.InRange
  waiting : ∀ e ∈ s.waiting, e.sweep ≤ 65535
  seats : ∀ t ∈ s.seats, t.lockout ≤ 250
  channels : ∀ c, (s.chan c).InRange

theorem State.Moves.floorRanges {s t : State} (h : s.Moves t) (hr : s.FloorRanges) : t.FloorRanges := by
  induction h with
  | refl => exact hr
  | trans _ _ h1 h2 => exact h2 (h1 hr)
  | chan s c r h =>
    refine ⟨hr.settings, hr.agenda, hr.waiting, hr.seats, fun d => ?_⟩
    by_cases hd : d = c
    · subst hd; rw [State.chan_setChan_same]; exact h hr.agenda (hr.channels d)
    · rw [State.chan_setChan_ne _ _ hd]; exact hr.channels d
  | place s n p b =>
    exact ⟨by simpa using hr.settings, by simpa using hr.agenda, by simpa using hr.waiting,
      State.forall_updSeat hr.seats fun h => h, by simpa using hr.channels⟩
  | notice s x =>
    exact ⟨by simpa using hr.settings, by simpa using hr.agenda, by simpa using hr.waiting, by simpa using hr.seats,
      by simpa using hr.channels⟩
  | floor => exact ⟨hr.settings, hr.agenda, hr.waiting, hr.seats, hr.channels⟩
  | waiting s l h =>
    exact ⟨hr.settings, hr.agenda, fun e he => (h e he).elim (hr.waiting e) id, hr.seats, hr.channels⟩
  | speakers => exact ⟨hr.settings, hr.agenda, hr.waiting, hr.seats, hr.channels⟩
  | lockout s n =>
    exact ⟨by simpa [State.loadLockout] using hr.settings, by simpa [State.loadLockout] using hr.agenda,
      by simpa [State.loadLockout] using hr.waiting, State.forall_updSeat hr.seats fun _ => hr.settings,
      by simpa [State.loadLockout] using hr.channels⟩
  | timer => exact ⟨hr.settings, hr.agenda, hr.waiting, hr.seats, hr.channels⟩

theorem State.InRange.floorRanges {s : State} (h : s.InRange) : s.FloorRanges := by
  obtain ⟨-, ⟨hw, -, -⟩, ⟨-, -, -, -, hl, -⟩, ha, hs, hc, -⟩ := h
  exact ⟨hl, ha, hw, fun t ht => (hs t ht).lockout, fun c => hc c (mem_allChans c)⟩

/-- A seat in range but for its lockout. -/
theorem Seat.InRange.of_frozen {t u : Seat} (h : t.InRange) (hf : u.frozen = t.frozen) (hl : u.lockout ≤ 250) : u.InRange := by
  obtain ⟨h1, h2, h3, h4, -, h6⟩ := h
  cases t; cases u
  simp only [Seat.frozen, Seat.mk.injEq] at hf
  obtain ⟨rfl, rfl, rfl, rfl, rfl, -, -, -, rfl, rfl, -⟩ := hf
  exact ⟨h1, h2, h3, h4, hl, h6⟩

/-- The floor's operations keep every value in its range. -/
theorem State.Moves.inRange {s t : State} (h : s.Moves t) (hr : s.InRange) : t.InRange := by
  have hf := h.frozen
  obtain ⟨-, -, hwait, hlock, hchan⟩ := h.floorRanges hr.floorRanges
  have hgain : t.gains = s.gains := by rw [State.frozen_eq hf]
  have hseats : t.seats.map Seat.frozen = s.seats.map Seat.frozen := congrArg State.seats hf
  have howed := State.frozen_owed hf
  obtain ⟨hc, ⟨-, hret, hact⟩, hset, ha, hs, -, hg⟩ := hr
  refine ⟨?_, ⟨hwait, by rw [howed]; exact hret, by rw [howed]; exact hact⟩, by rw [State.frozen_eq hf]; exact hset,
    by rw [State.frozen_eq hf]; exact ha, fun u hu => ?_, fun c _ => hchan c, by simpa [State.gain, hgain] using hg⟩
  · rw [State.frozen_eq hf]; exact hc
  · obtain ⟨v, hv, hvu⟩ := List.mem_map.mp (hseats ▸ List.mem_map_of_mem hu)
    exact (hs v hv).of_frozen hvu.symm (hlock u hu)

/-- A fold of operations that keep the ranges keeps them. -/
theorem State.inRange_foldl {α : Type} {f : State → α → State} (h : ∀ s a, s.InRange → (f s a).InRange) (l : List α) {s : State}
    (hs : s.InRange) : (l.foldl f s).InRange := by
  induction l generalizing s with
  | nil => exact hs
  | cons a l ih => exact ih (h s a hs)

/-! ### Seats and channels changed outside the floor's operations -/

/-- A seat replaced by one in range. -/
theorem State.inRange_updSeat {s : State} (h : s.InRange) (n : Nat) {f : Seat → Seat}
    (hf : (s.seat n).InRange → (f (s.seat n)).InRange) : (s.updSeat n f).InRange := by
  have hseats := State.forall_updSeat (n := n) h.seats hf
  cases n with
  | zero => exact h
  | succ k =>
    obtain ⟨h1, h2, h3, h4, -, h6, h7⟩ := h
    exact ⟨h1, h2, h3, h4, hseats, h6, h7⟩

/-- All seats replaced by seats in range. -/
theorem State.inRange_withSeats {s : State} (h : s.InRange) {l : List Seat} (hl : ∀ t ∈ l, t.InRange) :
    { s with seats := l }.InRange := by
  obtain ⟨h1, h2, h3, h4, -, h6, h7⟩ := h
  exact ⟨h1, h2, h3, h4, hl, h6, h7⟩

/-- Other steps made due, or taken. -/
theorem State.inRange_setOwed {s : State} (h : s.InRange) {o : Owed} (hr : o.returned = s.owed.returned)
    (ha : o.actions = s.owed.actions) : (s.setOwed o).InRange := by
  obtain ⟨h1, ⟨r1, r2, r3⟩, h2⟩ := h
  exact ⟨h1, ⟨r1, by simpa [hr] using r2, by simpa [ha] using r3⟩, h2⟩

/-! ### The chain: loss and return of sweeps -/

/-- R32, R40, R158: an absent seat has its filter and its counts reset. -/
theorem Seat.inRange_lose {t : Seat} (h : t.InRange) : t.lose.InRange :=
  ⟨h.1, Nat.zero_le _, fun _ => ⟨rfl, rfl, rfl, rfl⟩, (by decide : Keys.reset.InRange), h.lockout, Nat.zero_le _⟩

theorem State.inRange_breakTrunk {s : State} (h : s.InRange) (k : Nat) : (s.breakTrunk k).InRange := by
  have h1 : ({ s with trunk := .down }.raise (.trunkDown k)).InRange := (State.Moves.notice _ _).inRange h
  have h2 : ({ s with trunk := .down }.raise (.trunkDown k)).loseAllSeats.InRange :=
    State.inRange_withSeats h1 fun t ht => by
      obtain ⟨u, hu, rfl⟩ := List.mem_map.mp ht
      exact Seat.inRange_lose (h1.seats u hu)
  exact (State.moves_breakFloor _).inRange h2

theorem State.inRange_declareLost {s : State} (h : s.InRange) (k : Nat) : (s.declareLost k).InRange := by
  have h1 : { s with lostRun := min (s.lostRun + 1) Config.lostRunLimit, discarded := [] }.InRange := by
    obtain ⟨⟨c1, -, c3, c4, c5, c6, c7, c8, c9, -⟩, h2⟩ := h
    exact ⟨⟨c1, Nat.min_le_right _ _, c3, c4, c5, c6, c7, c8, c9, by simp⟩, h2⟩
  unfold State.declareLost
  simp only
  split <;> [exact State.inRange_breakTrunk h1 k; exact h1]

theorem State.inRange_declareOwedLoss {s : State} (h : s.InRange) : s.declareOwedLoss.InRange := by
  unfold State.declareOwedLoss
  split
  · exact h
  · exact State.inRange_declareLost (by exact h) _

theorem State.inRange_lostSweepStep {s : State} (h : s.InRange) : s.lostSweepStep.InRange := by
  unfold State.lostSweepStep State.declareAwaitedLoss
  split
  · exact State.inRange_declareOwedLoss h
  · split
    · exact h
    · split
      · refine State.inRange_declareLost ?_ _
        obtain ⟨⟨c1, c2, c3, c4, c5, c6, c7, c8, -, c10⟩, h2⟩ := h
        exact ⟨⟨c1, c2, c3, c4, c5, c6, c7, c8, Nat.zero_le _, c10⟩, h2⟩
      · exact h

theorem State.inRange_takeLosses {s : State} (h : s.InRange) : s.takeLosses.InRange :=
  (State.moves_takeOff _ _ _).inRange (State.inRange_foldl (fun _ _ hs =>
    (State.Moves.notice _ _).inRange (State.inRange_updSeat hs _ Seat.inRange_lose)) _ (by exact h))

/-! ### Key actions -/

theorem State.inRange_keepSlots {s : State} (h : s.InRange) {k : Nat} (hk : k ≤ 65535) (rest : List KeySlot) :
    (s.keepSlots k rest).InRange := by
  obtain ⟨h1, ⟨r1, r2, -⟩, h2⟩ := h
  exact ⟨h1, ⟨r1, r2, hk⟩, h2⟩

theorem State.inRange_spend {s : State} (h : s.InRange) (k : KeySlot) : (s.spend k).InRange := by
  unfold State.spend
  split
  · exact State.inRange_updSeat h _ fun h => h
  · exact h

theorem nextSeat_range (n : Nat) : 1 ≤ nextSeat n ∧ nextSeat n ≤ 200 := by
  unfold nextSeat; split <;> simp_all [Config.seatCount]

theorem State.inRange_endPresentation {s : State} (h : s.InRange) : s.endPresentation.InRange := by
  obtain ⟨⟨c1, c2, c3, c4, c5, c6, -, c8⟩, ⟨r1, r2, -⟩, h2⟩ := h
  exact ⟨⟨c1, c2, c3, c4, c5, c6, nextSeat_range _, c8⟩, ⟨r1, r2, Nat.zero_le _⟩, h2⟩

theorem State.inRange_closePresentation {s : State} (h : s.InRange) : s.closePresentation.InRange := by
  unfold State.closePresentation
  split <;> [exact State.inRange_endPresentation h; exact h]

/-- The number of the sweep whose actions are presented. -/
theorem State.InRange.actions {s : State} (h : s.InRange) {p : Presentation} (hp : s.owed.actions = some p) : p.sweep ≤ 65535 := by
  obtain ⟨-, ⟨-, -, h⟩, -⟩ := h
  simpa [hp] using h

/-- The number of the sweep whose record came back. -/
theorem State.InRange.returned {s : State} (h : s.InRange) {r : ReturnedSweep} (hr : s.owed.returned = some r) :
    r.sweep ≤ 65535 := by
  simpa [hr] using h.returned_le

/-- A presented action keeps the ranges where its answer does. -/
theorem State.inRange_present {s : State} (h : s.InRange) (n : Nat) (a : KeyAct) {answer : State → Nat → State}
    (ha : ∀ (u : State) (k : Nat), k ≤ 65535 → u.Moves (answer u k)) : (s.present n a answer).InRange := by
  obtain he | ⟨p, before, k, rest, hp, -, -, -, -, he⟩ := s.present_cases n a answer
  · rw [he]; exact h
  · have hk := h.actions hp
    have h1 : (before.foldl State.spend s).InRange := State.inRange_foldl (fun _ k hs => State.inRange_spend hs k) before h
    rw [he, State.takeSlot]
    split
    · exact State.inRange_closePresentation (State.inRange_spend (State.inRange_keepSlots h1 hk rest) k)
    · exact State.inRange_closePresentation ((ha _ _ hk).inRange (State.inRange_keepSlots h1 hk rest))

theorem State.inRange_presentSlots {k : Nat} (hk : k ≤ 65535) (l : List KeySlot) {s : State} (h : s.InRange) :
    (State.presentSlots k l s).InRange := by
  induction l generalizing s with
  | nil => exact h
  | cons x l ih =>
    unfold State.presentSlots
    have h1 := State.inRange_keepSlots h hk l
    split
    · exact ih (State.inRange_spend h1 x)
    · exact ih ((State.moves_answer _ _ _ hk).inRange h1)

theorem State.inRange_presentAll {s : State} (h : s.InRange) : s.presentAll.InRange := by
  unfold State.presentAll
  split
  · exact h
  · next p hp => exact State.inRange_endPresentation (State.inRange_presentSlots (h.actions hp) _ h)

/-! ### The audit -/

/-- R152, R153: a comparison of a present seat leaves its count in range. -/
theorem Seat.inRange_compare {t : Seat} (h : t.InRange) (hp : t.present = true) (k : Nat) (e : AuditEntry) :
    (t.compare k e).InRange := by
  obtain ⟨h1, h2, h3, h4, h5, -⟩ := h
  unfold Seat.compare
  split
  · exact ⟨h1, h2, fun hf => by simp [hp] at hf, h4, h5, Nat.zero_le _⟩
  · exact ⟨h1, h2, fun hf => by simp [hp] at hf, h4, h5, Nat.min_le_right _ _⟩

theorem State.inRange_compareAll {s : State} (h : s.InRange) (l : List AuditEntry) : (s.compareAll l).InRange := by
  refine State.inRange_foldl (fun u e hu => ?_) l h
  unfold State.compareEntry
  split
  · next hp => exact State.inRange_updSeat hu _ fun ht => Seat.inRange_compare ht hp _ _
  · exact hu

theorem Seat.inRange_reported {t : Seat} (h : t.InRange) : t.reported.InRange := by
  obtain ⟨h1, h2, h3, h4⟩ := h
  exact ⟨h1, h2, fun hp => by obtain ⟨a, b, c, -⟩ := h3 hp; exact ⟨a, b, c, rfl⟩, h4⟩

theorem State.moves_removeReported (s : State) (n : Nat) : s.Moves (s.removeReported n) := by
  unfold State.removeReported
  split <;> [exact .refl s; exact s.moves_removeWaiting n _; exact s.moves_endSeat n _]

/-- R155: the search finds a seat in range. -/
theorem State.findPending_range {s : State} {n : Nat} (h : s.findPending = some n) : n ∈ seatNumbers := by
  obtain hn | hn := List.mem_append.mp (List.mem_of_find?_eq_some h)
  · exact List.mem_of_mem_drop hn
  · exact List.mem_of_mem_take hn

theorem State.inRange_reportOne {s : State} (h : s.InRange) : s.reportOne.InRange := by
  unfold State.reportOne
  split
  · exact h
  · next n hn =>
    split
    · exact h
    · next sense _ =>
      have h1 := State.inRange_updSeat ((State.Moves.notice s (.discrepancy n sense)).inRange h) n Seat.inRange_reported
      refine (State.moves_removeReported _ n).inRange ?_
      obtain ⟨⟨c1, c2, c3, c4, c5, c6, c7, -, c9⟩, h2⟩ := h1
      exact ⟨⟨c1, c2, c3, c4, c5, c6, c7, (mem_seatNumbers.mp (State.findPending_range hn)).2, c9⟩, h2⟩

theorem State.inRange_takeAudit {s : State} (h : s.InRange) : s.takeAudit.InRange := by
  unfold State.takeAudit
  split
  · exact h
  · exact State.inRange_reportOne (State.inRange_compareAll (by exact h) _)

theorem State.inRange_settleSweep {s : State} (h : s.InRange) : s.settleSweep.InRange :=
  State.inRange_takeAudit (State.inRange_takeLosses (State.inRange_presentAll (State.inRange_declareOwedLoss h)))

/-! ### The return of a sweep -/

/-- R37, R38: a filter of at most 8 levels keeps an agree count within 7. -/
theorem KeyState.filter_agree_le {k : KeyState} (h : k.agree ≤ 7) {depth : Nat} (hd : depth ≤ 8) (level : Bool) :
    (k.filter depth level).1.agree ≤ 7 := by
  unfold KeyState.filter
  split
  · exact Nat.zero_le _
  · split
    · simp only; omega
    · exact Nat.zero_le _

/-- R168: the filter depth is at most 8. -/
theorem Settings.InRange.depth_le {m : Settings} (h : m.InRange) : m.filterDepth ≤ 8 := by
  have := h.1
  simp only [List.mem_cons, List.not_mem_nil, or_false] at this
  omega

theorem Seat.inRange_answered {t : Seat} (h : t.InRange) {depth : Nat} (hd : depth ≤ 8) (u : UpHalf) :
    (t.answered depth u).InRange := by
  obtain ⟨h1, -, -, ⟨k1, k2, k3, k4⟩, h5, h6⟩ := h
  exact ⟨h1, Nat.zero_le _, fun hf => by simp [Seat.answered] at hf,
    ⟨KeyState.filter_agree_le k1 hd _, KeyState.filter_agree_le k2 hd _, KeyState.filter_agree_le k3 hd _,
      KeyState.filter_agree_le k4 hd _⟩, h5, h6⟩

/-- R27 to R30: a silence count stays below the presence timeout. -/
theorem Seat.inRange_swept {t : Seat} (h : t.InRange) {m : Settings} (hm : m.InRange) (u : UpHalf) : (t.swept m u).InRange := by
  unfold Seat.swept
  split
  · exact Seat.inRange_answered h hm.depth_le u
  · next hu =>
    split
    · next hc =>
      obtain ⟨hp, hlt⟩ : t.present = true ∧ t.silence + 1 < m.presenceTimeout := by
        simp only [Seat.isDueLost, hu, Bool.and_eq_true, Bool.not_eq_true', Bool.not_false, Bool.and_true] at hc
        obtain ⟨hp, hc⟩ := hc
        exact ⟨hp, by simpa [hp] using hc⟩
      have hmax := hm.2.1.2
      obtain ⟨h1, -, -, h4⟩ := h
      exact ⟨h1, by simp only; omega, fun hf => by simp [hp] at hf, h4⟩
    · exact h

/-- R9: each seat beside its entry is one of the seats. -/
theorem mem_pairUp {l : List Seat} {ups : List UpHalf} {x : Seat × UpHalf} (h : x ∈ pairUp l ups) : x.1 ∈ l := by
  induction l generalizing ups with
  | nil => simp [pairUp] at h
  | cons t l ih =>
    cases ups with
    | nil =>
      obtain rfl | h := List.mem_cons.mp h
      · exact List.mem_cons_self
      · exact List.mem_cons_of_mem _ (ih h)
    | cons u us =>
      obtain rfl | h := List.mem_cons.mp h
      · exact List.mem_cons_self
      · exact List.mem_cons_of_mem _ (ih h)

theorem State.moves_raiseFound (s : State) (l : List Nat) : s.Moves (s.raiseFound l) :=
  State.moves_foldl (fun s n => .notice s (.seatFound n)) l s

theorem State.inRange_trunkReturned {s : State} (h : s.InRange) (k : Nat) : (s.trunkReturned k).InRange := by
  have h0 (v : TrunkState) : { s with lostRun := 0, trunk := v }.InRange := by
    obtain ⟨⟨c1, -, c3⟩, h2⟩ := h
    exact ⟨⟨c1, Nat.zero_le _, c3⟩, h2⟩
  unfold State.trunkReturned
  split
  · exact h0 s.trunk
  · exact (State.Moves.notice _ _).inRange (h0 .up)

theorem State.inRange_handEntries {s : State} (h : s.InRange) {k : Nat} (hk : k ≤ 65535) (ups : List UpHalf) :
    (s.handEntries k ups).InRange := by
  have hm := h.settings
  have hs := h.seats
  obtain ⟨h1, ⟨r1, r2, -⟩, h3, h4, -, h6, h7⟩ := (s.moves_raiseFound
    (numbersOf (fun x => x.2.answered && !x.1.present) 1 (pairUp s.seats ups))).inRange h
  refine ⟨h1, ⟨r1, r2, hk⟩, h3, h4, fun t ht => ?_, h6, h7⟩
  obtain ⟨x, hx, rfl⟩ := List.mem_map.mp ht
  exact Seat.inRange_swept (hs x.1 (mem_pairUp hx)) hm x.2

theorem State.inRange_takeReturn {s : State} (h : s.InRange) : s.takeReturn.InRange := by
  unfold State.takeReturn
  split
  · exact h
  · next r hr =>
    have hk : r.sweep ≤ 65535 := h.returned hr
    have h1 : (s.setOwed { s.owed with returned := none }).InRange := by
      obtain ⟨h1, ⟨r1, -, r3⟩, h3⟩ := h
      exact ⟨h1, ⟨r1, Nat.zero_le _, r3⟩, h3⟩
    exact State.inRange_closePresentation (State.inRange_handEntries (State.inRange_trunkReturned
      (State.inRange_settleSweep h1) _) hk _)

/-! ### The interval start -/

theorem State.inRange_takeBlink {s : State} (h : s.InRange) : s.takeBlink.InRange := by
  unfold State.takeBlink
  split
  · obtain ⟨⟨c1, c2, c3, c4, c5, -, c7⟩, h2⟩ := h
    exact ⟨⟨c1, c2, c3, c4, c5, Nat.zero_le _, c7⟩, h2⟩
  · exact h

/-- A lockout only falls. -/
theorem Seat.inRange_lockout {t : Seat} (h : t.InRange) {k : Nat} (hk : k ≤ t.lockout) : { t with lockout := k }.InRange := by
  obtain ⟨h1, h2, h3, h4, h5, h6⟩ := h
  exact ⟨h1, h2, h3, h4, hk.trans h5, h6⟩

theorem State.inRange_takeLockout {s : State} (h : s.InRange) (n : Nat) : (s.takeLockout n).InRange := by
  unfold State.takeLockout
  split
  · exact State.inRange_setOwed (State.inRange_updSeat (f := fun t => { t with lockout := t.lockout - 1 }) h n fun h =>
      Seat.inRange_lockout h (Nat.sub_le _ 1)) (by simp) (by simp)
  · exact h

theorem State.inRange_takeLockouts {s : State} (h : s.InRange) : s.takeLockouts.InRange :=
  State.inRange_foldl (fun _ n hs => State.inRange_takeLockout hs n) _ h

theorem State.moves_takeTimer (s : State) (c : Chan) : s.Moves (s.takeTimer c) := by
  unfold State.takeTimer; split <;> [exact s.moves_tick c; exact .refl s]

theorem State.moves_takeTimers (s : State) : s.Moves s.takeTimers := State.moves_foldl State.moves_takeTimer _ _

theorem State.inRange_settleInterval {s : State} (h : s.InRange) : s.settleInterval.InRange :=
  State.inRange_takeReturn (State.inRange_declareOwedLoss ((State.moves_takeTimers _).inRange
    (State.inRange_takeLockouts (State.inRange_takeBlink h))))

theorem Seat.inRange_emit {t : Seat} (h : t.InRange) (c : Command) : (t.emit c).InRange := h

theorem State.inRange_emitSweep {s : State} (h : s.InRange) : s.emitSweep.InRange := by
  obtain ⟨⟨c1, c2, c3, c4, c5, c6, c7, c8, c9, c10⟩, h2, h3, h4, hs, h6⟩ := h
  have hseats : ∀ t ∈ s.seats.map fun t : Seat => t.emit (s.compose t), t.InRange := fun t ht => by
    obtain ⟨u, hu, rfl⟩ := List.mem_map.mp ht
    exact Seat.inRange_emit (hs u hu) _
  have hnext : (s.sweepNumber + 1) % Config.sweepModulus ≤ 65535 := by simp only [Config.sweepModulus]; omega
  unfold State.emitSweep State.advanceBlink
  simp only
  split
  · next hb =>
    exact ⟨⟨Nat.zero_le _, c2, c3, hnext, c4, by simp only [Config.blinkPeriod] at hb ⊢; omega, c7, c8, c4, c10⟩, h2, h3, h4,
      hseats, h6⟩
  · exact ⟨⟨Nat.zero_le _, c2, c3, hnext, c4, c6, c7, c8, c4, c10⟩, h2, h3, h4, hseats, h6⟩

theorem Channel.inRange_countHeld {c : Channel} (h : c.InRange) : c.countHeld.InRange := by
  unfold Channel.countHeld
  split <;> [exact ⟨h.1, Nat.min_le_right _ _⟩; exact h]

@[simp] theorem State.chan_countHeld (s : State) (c : Chan) : s.countHeld.chan c = (s.chan c).countHeld :=
  PerChan.get_tabulate _ _

theorem State.inRange_countHeld {s : State} (h : s.InRange) : s.countHeld.InRange := by
  obtain ⟨h1, h2, h3, h4, h5, h6, h7⟩ := h
  exact ⟨h1, h2, h3, h4, h5, fun c hc => by rw [State.chan_countHeld]; exact Channel.inRange_countHeld (h6 c hc), h7⟩

theorem Seat.inRange_countLockout {t : Seat} (h : t.InRange) : t.countLockout.InRange := by
  unfold Seat.countLockout
  split <;> [exact Seat.inRange_lockout h (Nat.sub_le _ _); exact h]

theorem State.inRange_countLockouts {s : State} (h : s.InRange) : s.countLockouts.InRange := by
  refine State.inRange_withSeats (s := s.setOwed { s.owed with lockouts := s.expiringLockouts }) (by exact h) fun t ht => ?_
  obtain ⟨u, hu, rfl⟩ := List.mem_map.mp ht
  exact Seat.inRange_countLockout (h.seats u hu)

theorem State.inRange_countTimers {s : State} (h : s.InRange) : s.countTimers.InRange := by
  refine State.inRange_foldl (fun u c hu => ?_) _ h
  unfold State.countTimer
  split
  · exact hu
  · exact (u.moves_tick c).inRange hu

theorem State.inRange_countInterval {s : State} (h : s.InRange) : s.countInterval.InRange :=
  State.inRange_countTimers (State.inRange_countLockouts (State.inRange_countHeld h))

theorem State.inRange_startInterval {s : State} (h : s.InRange) (o : IntervalOrder) : (s.startInterval o).InRange := by
  unfold State.startInterval
  split
  · have h1 := State.inRange_settleInterval h
    cases o
    · exact State.inRange_countInterval (State.inRange_emitSweep h1)
    · exact State.inRange_emitSweep ((State.moves_takeTimers _).inRange
        (State.inRange_takeLockouts (State.inRange_countInterval h1)))
  · exact h

end Sys2Proof.Machine
end

section
/-! ## The ranges: the frame period, the message unit and the directives -/

namespace Sys2Proof.Machine

/-! ### The frame period -/

/-- No range looks at the incoming stream. -/
theorem State.inRange_of_input {s t : State} (h : s.InRange) (e : t.sansInput = s.sansInput) : t.InRange := by
  rw [State.sansInput_eq e]; exact h

/-- No range looks at the outgoing stream. -/
theorem State.inRange_of_output {s t : State} (h : s.InRange) (e : t.sansOutput = s.sansOutput) : t.InRange := by
  rw [State.sansOutput_eq e]; exact h

/-- A lock count in range. -/
theorem State.inRange_withLockCount {s : State} (h : s.InRange) {k : Nat} (hk : k ≤ 48) : { s with lockCount := k }.InRange := by
  obtain ⟨⟨c1, c2, -, c4⟩, h2⟩ := h
  exact ⟨⟨c1, c2, hk, c4⟩, h2⟩

theorem State.inRange_takeLock {s : State} (h : s.InRange) : s.takeLock.InRange := by
  unfold State.takeLock
  split <;> [exact State.inRange_withLockCount h (Nat.zero_le 48); exact h]

theorem State.inRange_takeUnlock {s : State} (h : s.InRange) : s.takeUnlock.InRange := by
  unfold State.takeUnlock
  split
  · exact State.inRange_withLockCount (State.inRange_of_output (State.inRange_of_input
      (State.inRange_setOwed (o := { s.owed with unlock := false }) h rfl rfl)
      (State.sansInput_takeHeader _)) (State.sansOutput_finishMessage _)) (Nat.zero_le 48)
  · exact h

theorem State.inRange_freeChan {s : State} (h : s.InRange) (c : Chan) : (s.freeChan c).InRange := by
  have h1 := (State.Moves.chan s c { s.chan c with state := .free } fun _ h => h).inRange h
  exact State.inRange_setOwed h1 rfl rfl

theorem State.inRange_takeFreed {s : State} (h : s.InRange) (c : Chan) : (s.takeFreed c).InRange := by
  unfold State.takeFreed
  split <;> [exact (State.moves_fill _).inRange (State.inRange_freeChan h c); exact h]

theorem State.inRange_takeAllFreed {s : State} (h : s.InRange) : s.takeAllFreed.InRange :=
  State.inRange_setOwed (State.inRange_foldl (fun _ c hs => State.inRange_takeFreed hs c) _ h) rfl rfl

/-- Before a frame period the ranges hold, and the interval has frame periods left. -/
theorem State.inRange_beforeFrame {s : State} (h : s.InRange) : s.beforeFrame.InRange ∧ s.beforeFrame.frame < 96 := by
  have h1 := State.inRange_takeAllFreed (State.inRange_takeUnlock (State.inRange_takeLock h))
  have h2 := State.inRange_startInterval h1 .emissionFirst
  have hlt : (s.takeLock.takeUnlock.takeAllFreed.startInterval .emissionFirst).frame < 96 := by
    obtain ⟨-, -, -, -, hf⟩ := s.takeLock.takeUnlock.takeAllFreed.startInterval_keeps .emissionFirst
    have := h1.1.1
    rw [hf]; split <;> omega
  unfold State.beforeFrame State.settleFirst
  split
  · exact ⟨State.inRange_settleSweep h2, by rwa [(State.unswept_chain (State.unswept_settleSweep _)).1]⟩
  · exact ⟨h2, hlt⟩

theorem State.inRange_emitFrame {s : State} (h : s.InRange) (hf : s.frame < 96) : s.emitFrame.InRange := by
  obtain ⟨⟨-, c2⟩, h2⟩ := h
  exact ⟨⟨hf, c2⟩, h2⟩

/-- What of the ranges the scan can reach. -/
theorem State.inRange_withScan {s t : State} (h : s.InRange) (e : t.sansScan = s.sansScan) (ha : t.awaiting.getD 0 ≤ 65535)
    (hd : ∀ d ∈ t.discarded, d ∈ s.discarded) (hr : (t.owed.returned.map ReturnedSweep.sweep).getD 0 ≤ 65535) : t.InRange := by
  obtain ⟨⟨c1, c2, c3, c4, c5, c6, c7, c8, -, c10⟩, ⟨r1, -, r3⟩, h3⟩ := h
  rw [State.sansScan_eq e]
  exact ⟨⟨c1, c2, c3, c4, c5, c6, c7, c8, ha, fun d hm => c10 d (hd d hm)⟩, ⟨r1, hr, r3⟩, h3⟩

theorem State.inRange_judgeCandidate {s : State} (h : s.InRange) (got : List Byte) : (s.judgeCandidate got).InRange := by
  obtain ⟨⟨c1, c2, c3, c4, c5, c6, c7, c8, c9, -⟩, ⟨r1, r2, r3⟩, h3⟩ := h
  unfold State.judgeCandidate
  simp only
  split
  · exact ⟨⟨c1, c2, c3, c4, c5, c6, c7, c8, c9, by simp⟩, ⟨r1, r2, r3⟩, h3⟩
  · next k hk =>
    split
    · exact ⟨⟨c1, c2, c3, c4, c5, c6, c7, c8, Nat.zero_le _, by simp⟩, ⟨r1, by simpa [hk] using c9, r3⟩, h3⟩
    · exact ⟨⟨c1, c2, c3, c4, c5, c6, c7, c8, c9, by simp⟩, ⟨r1, r2, r3⟩, h3⟩

/-- Where a search stops, the rest of the list stands. -/
theorem mem_of_dropWhile_eq {α : Type} {p : α → Bool} {l later : List α} {d : α} (h : l.dropWhile p = d :: later) :
    ∀ x ∈ later, x ∈ l := fun _ hx => (List.dropWhile_suffix p).subset (h ▸ List.mem_cons_of_mem d hx)

theorem State.inRange_takeCandidate {s : State} (h : s.InRange) (got : List Byte) (b : Byte) :
    (s.takeCandidate got b).InRange := by
  unfold State.takeCandidate
  split
  · unfold State.meetHeader
    split
    · exact h
    · split
      · exact h
      · next hd => exact State.inRange_withScan h rfl h.awaiting (mem_of_dropWhile_eq hd) h.returned_le
  split
  · exact h
  · exact State.inRange_judgeCandidate h _

theorem State.inRange_scanByte {s : State} (h : s.InRange) (b : Byte) : (s.scanByte b).InRange := by
  unfold State.scanByte
  split
  · split <;> exact h
  · split
    · exact State.inRange_takeCandidate h _ b
    · next hd =>
      split
      · exact State.inRange_withScan h rfl h.awaiting (mem_of_dropWhile_eq hd) h.returned_le
      · exact State.inRange_takeCandidate h _ b
  · exact h
  · exact h

theorem State.inRange_scanFrame {s : State} (h : s.InRange) (r : Option (List Byte)) : (s.scanFrame r).InRange := by
  cases r with
  | some b => exact State.inRange_foldl (fun _ x hu => State.inRange_scanByte hu x) _ h
  | none =>
    simp only [State.scanFrame, State.scanGap]
    split
    · exact h
    · split
      · exact h
      · next hd => exact State.inRange_withScan h rfl h.awaiting (mem_of_dropWhile_eq hd) h.returned_le
    · exact h
    · exact h

/-- R139: a target is within the range of a gain. -/
theorem State.target_le {s : State} (h : s.InRange) (c : Chan) : s.target c ≤ 32768 := by
  have hlevel : s.boundLevel c ≤ 32768 := by
    unfold State.boundLevel
    split
    · exact Nat.zero_le _
    · next n _ => exact (h.seat n).1
  have hduck : s.duckDepth ≤ 32768 := by
    unfold State.duckDepth
    cases ha : s.active with
    | none => simp [Config.unity]
    | some ctx =>
      obtain ⟨-, -, -, -, -, -, hd⟩ := h.agenda ctx (List.mem_of_head? ha)
      simpa using hd
  unfold State.target
  split
  · exact Nat.zero_le _
  · exact Nat.zero_le _
  · split
    · simp only [Config.unity]
      exact Nat.div_le_of_le_mul (Nat.mul_le_mul hlevel hduck)
    · exact hlevel

/-- R142: a step does not pass the target. -/
theorem rampStep_le {size target gain : Nat} (ht : target ≤ 32768) (hg : gain ≤ 32768) : rampStep size target gain ≤ 32768 := by
  unfold rampStep
  split
  · omega
  · split <;> omega

theorem State.inRange_stepGains {s : State} (h : s.InRange) : s.stepGains.InRange := by
  have hgain (c : Chan) : (s.rampGain c).InRange := by
    refine ⟨?_, State.target_le h c⟩
    simp only [State.rampGain]
    split
    · exact Nat.zero_le _
    · exact rampStep_le (State.target_le h c) (h.gain c).1
  obtain ⟨h1, h2, h3, h4, h5, h6, -⟩ := h
  refine ⟨h1, h2, h3, h4, h5, h6, fun c _ => ?_⟩
  rw [State.gain, State.stepGains]
  simpa using hgain c

theorem State.inRange_headIn {s : State} (h : s.InRange) (b : Option (List Byte)) : (s.headIn b).InRange := by
  cases b with
  | none =>
    simp only [State.headIn, State.missHeadFrame]
    split
    · exact h
    · exact State.inRange_withLockCount h (Nat.zero_le 48)
  | some b =>
    simp only [State.headIn, State.takeHeadFrame]
    split
    · exact State.inRange_of_input (s := { s with program := programOf b }) h
        ((State.sansInput_takeByte _ _).trans (State.sansInput_takeByte _ _))
    · exact State.inRange_withLockCount h (Nat.min_le_right _ _)

theorem State.inRange_sendHeadFrame {s : State} (h : s.InRange) (x : PerChan Sample) : (s.sendHeadFrame x).InRange := by
  rw [State.sansHeadOut_eq (s.sansHeadOut_sendHeadFrame x)]; exact h

theorem State.inRange_framePeriod {s : State} (h : s.InRange) (hf : s.frame < 96) (r b : Option (List Byte)) :
    (s.framePeriod r b).InRange :=
  State.inRange_headIn (State.inRange_sendHeadFrame (State.inRange_stepGains (State.inRange_scanFrame
    (State.inRange_emitFrame h hf) r)) _) b

/-! ### What decoding lets through -/

/-- R18, R53, R168, R79: the fields of a decoded directive that are stored lie in their ranges. -/
def Directive.InRange : Directive → Prop
  | .loadSeats _ entries => ∀ e ∈ entries, e.level ≤ 32768
  | .setGeneral r => r.settings.InRange ∧ ∀ n, r.rotation = some n → 1 ≤ n ∧ n ≤ 200
  | .stageItem c => c.InRange
  | _ => True

theorem byteAt_le (b : List Byte) (i : Nat) : byteAt b i ≤ 255 := Nat.le_of_lt_succ (b.getD i 0).isLt

theorem wordAt_le (b : List Byte) (i : Nat) : wordAt b i ≤ 65535 := by
  have h1 := byteAt_le b i
  have h2 := byteAt_le b (i + 1)
  unfold wordAt; omega

/-- R20: every level of a load is clamped. -/
theorem readSeatConfigs_inRange {b : List Byte} {l : List SeatConfig} (h : readSeatConfigs b = some l) :
    ∀ e ∈ l, e.level ≤ 32768 := by
  induction b using readSeatConfigs.induct generalizing l with
  | case1 e c k l1 l2 rest ih =>
    simp only [readSeatConfigs, Option.bind_eq_bind, Option.bind_eq_some_iff] at h
    obtain ⟨en, -, cl, -, ka, -, others, hrest, he⟩ := h
    cases he
    intro x hx
    obtain rfl | hx := List.mem_cons.mp hx
    · exact Nat.min_le_right _ _
    · exact ih hrest x hx
  | case2 b hb =>
    rw [readSeatConfigs] at h
    · cases h; simp
    · exact hb

theorem readPositive_range {hi n k : Nat} (hhi : 1 ≤ hi) (h : readPositive hi n = some k) : 1 ≤ k ∧ k ≤ hi := by
  unfold readPositive at h
  split at h
  · cases h
  · cases h; omega

theorem readOneOf_mem {l : List Nat} {n k : Nat} (h : readOneOf l n = some k) : k ∈ l := by
  unfold readOneOf at h
  split at h
  · next hc => cases h; simpa using hc
  · cases h

theorem clamp_range {lo hi : Nat} (h : lo ≤ hi) (n : Nat) : lo ≤ clamp lo hi n ∧ clamp lo hi n ≤ hi := by
  unfold clamp; omega

theorem readSetGeneral_inRange {b : List Byte} {d : Directive} (h : readSetGeneral b = some d) : d.InRange := by
  simp only [readSetGeneral, Option.bind_eq_bind, Option.bind_eq_some_iff] at h
  obtain ⟨depth, hdepth, ramp, hramp, ae, -, load, -, h⟩ := h
  split at h
  swap
  · cases h
  next hmask =>
  cases h
  refine ⟨⟨readOneOf_mem hdepth, clamp_range (by decide) _, clamp_range (by decide) _, readOneOf_mem hramp,
    (clamp_range (by decide) _).2, ?_⟩, fun n hn => ?_⟩
  · exact hmask
  · simp only at hn
    split at hn
    · cases hn; exact clamp_range (by decide) _
    · cases hn

theorem readStageItem_inRange {b : List Byte} {d : Directive} (h : readStageItem b = some d) : d.InRange := by
  simp only [readStageItem, Option.bind_eq_bind, Option.bind_eq_some_iff] at h
  obtain ⟨mode, -, maxLive, hmax, adm, -, cf, -, ct, -, ex, -, batch, hbatch, pe, -, su, -, ca, -, he⟩ := h
  cases he
  exact ⟨wordAt_le b 0, readPositive_range (by decide) hmax, Nat.min_le_right _ _, Nat.min_le_right _ _,
    Nat.min_le_right _ _, readPositive_range (by decide) hbatch, Nat.min_le_right _ _⟩

theorem readLoadSeats_inRange {b : List Byte} {d : Directive} (h : readLoadSeats b = some d) : d.InRange := by
  simp only [readLoadSeats, Option.bind_eq_bind, Option.bind_eq_some_iff] at h
  obtain ⟨run, -, entries, hentries, he⟩ := h
  cases he
  exact readSeatConfigs_inRange hentries

/-- The kinds that store no field are in range as they are. -/
theorem readFields_inRange {kind : Nat} {b : List Byte} {d : Directive} (h : readFields kind b = some d) : d.InRange := by
  unfold readFields at h
  split at h
  · exact readLoadSeats_inRange h
  · simp only [readReadSeats, Option.bind_eq_bind, Option.bind_eq_some_iff] at h
    obtain ⟨_, -, he⟩ := h; cases he; trivial
  · exact readSetGeneral_inRange h
  · exact readStageItem_inRange h
  · cases h; trivial
  · cases h; trivial
  · obtain ⟨_, -, rfl⟩ := Option.map_eq_some_iff.mp h; trivial
  · obtain ⟨_, -, rfl⟩ := Option.map_eq_some_iff.mp h; trivial
  · simp only [readEnqueue, Option.bind_eq_bind, Option.bind_eq_some_iff] at h
    obtain ⟨_, -, he⟩ := h; cases he; trivial
  · obtain ⟨_, -, rfl⟩ := Option.map_eq_some_iff.mp h; trivial
  · cases h; trivial
  · cases h; trivial
  · simp only [readExtend, Option.bind_eq_bind, Option.bind_eq_some_iff] at h
    obtain ⟨_, -, he⟩ := h; cases he; trivial
  · cases h; trivial
  · cases h; trivial
  · cases h; trivial
  · cases h

theorem decodeMessage_inRange {kind len : Byte} {body : List Byte} {d : Directive}
    (h : decodeMessage kind len body = .accepted d) : d.InRange := by
  unfold decodeMessage at h
  split at h
  · split at h
    · cases h
    · split at h
      · next hd => cases h; exact readFields_inRange hd
      · cases h
  · cases h

/-- R162: a faithful entry's outcome is that of its own bytes. -/
theorem Entry.Faithful.outcome {e : Entry} (h : e.Faithful) : e.outcome = decodeMessage e.kind e.len e.body := by
  obtain h | ⟨-, h⟩ := h <;> simp [Entry.outcome, h]

/-! ### Dispatch -/

/-- A dispatch keeps the ranges where the directive's owner does. -/
theorem State.inRange_dispatch {s : State} (hi : s.InputSound) (h : s.InRange) (k : Nat) {owner : State → Byte → Directive → State}
    (ho : ∀ (u : State) (tag : Byte) (d : Directive), u.InRange → d.InRange → (owner u tag d).InRange) :
    (s.dispatch k owner).InRange := by
  obtain ⟨-, -, hfaithful, -⟩ := hi
  unfold State.dispatch State.oldest
  cases hb : s.buffer with
  | nil => exact h
  | cons e rest =>
    simp only
    by_cases hc : (e.complete && decide (s.replies.length < Config.replyMax)) = true
    swap
    · simp only [hc]; exact h
    simp only [hc, ↓reduceIte]
    split
    · split
      · exact h
      · next d hd =>
        rw [(hfaithful e (hb ▸ List.mem_cons_self)).outcome] at hd
        exact ho _ _ d (by exact h) (decodeMessage_inRange hd)
    · exact h

theorem State.inRange_reply {s : State} (h : s.InRange) (tag : Byte) (b : ReplyBody) : (s.reply tag b).InRange := h

/-- An agenda of contexts in range. -/
theorem State.inRange_withAgenda {s : State} (h : s.InRange) {l : List Context} (hl : ∀ c ∈ l, c.InRange) :
    { s with agenda := l }.InRange := by
  obtain ⟨h1, h2, h3, -, h5⟩ := h
  exact ⟨h1, h2, h3, hl, h5⟩

theorem State.inRange_stageItem {s : State} (h : s.InRange) (tag : Byte) {c : Context} (hc : c.InRange) :
    (s.stageItem tag c).InRange := by
  unfold State.stageItem
  split
  · have h1 : { s with agenda := [c] }.InRange := State.inRange_withAgenda h (by simpa using hc)
    exact State.inRange_reply ((((State.Moves.floor _ .opened).trans (.notice _ _)).trans (State.moves_fill _)).inRange h1) _ _
  · next a ha =>
    exact State.inRange_withAgenda h (List.forall_mem_cons.mpr ⟨h.agenda a (ha ▸ List.mem_cons_self),
      List.forall_mem_singleton.mpr hc⟩)
  · exact h

theorem State.inRange_closeFloor {s : State} (h : s.InRange) (item : Nat) (r : Reason) : (s.closeFloor item r).InRange :=
  (((((State.Moves.floor _ .closed).trans (State.moves_releaseHolder _ r)).trans (State.moves_releaseSpeakers _ r)).trans
    (State.moves_clearWaiting _ r)).trans (.notice _ _)).inRange (State.inRange_withAgenda h (l := []) (by simp))

theorem State.inRange_advanceItem {s : State} (h : s.InRange) (tag : Byte) : (s.advanceItem tag).InRange := by
  have ha := h.agenda
  unfold State.advanceItem
  split
  · exact h
  · next a rest hagenda =>
    rw [hagenda] at ha
    split
    · exact h
    · split
      · next n later =>
        have h1 : { s with agenda := n :: later }.InRange :=
          State.inRange_withAgenda h fun c hc => ha c (List.mem_cons_of_mem _ hc)
        obtain ⟨-, -, -, hlimit, -⟩ := ha n (by simp)
        exact State.inRange_reply ((State.moves_changeover _ hlimit).inRange h1) _ _
      · split
        · exact h
        · exact State.inRange_reply (State.inRange_closeFloor h _ _) _ _

theorem State.inRange_flushAgenda {s : State} (h : s.InRange) (tag : Byte) : (s.flushAgenda tag).InRange := by
  unfold State.flushAgenda
  split
  · exact h
  · next a rest hagenda =>
    split
    · have h1 : { s with agenda := [a] }.InRange :=
        State.inRange_withAgenda h (List.forall_mem_singleton.mpr (h.agenda a (hagenda ▸ List.mem_cons_self)))
      exact State.inRange_reply ((((State.moves_clearFloor _ _).trans (State.moves_endHolder _ _)).trans
        (State.moves_fill _)).inRange h1) _ _
    · exact State.inRange_reply (State.inRange_closeFloor h _ _) _ _

theorem State.inRange_operatorGrant {s : State} (h : s.InRange) (tag : Byte) (n : Nat) : (s.operatorGrant tag n).InRange := by
  have grant (c : Chan) (l : Bool) : ((s.leaveSilently n).grant c n l).InRange :=
    ((s.moves_filterWaiting _).trans (State.moves_grant _ c n l)).inRange h
  unfold State.operatorGrant
  split
  · exact h
  split
  · exact h
  split
  · exact h
  split
  · split
    · exact h
    · unfold State.grantByOperator
      split
      · exact h
      · exact State.inRange_reply (grant _ _) _ _
  · exact h

theorem State.inRange_operatorRevoke {s : State} (h : s.InRange) (tag : Byte) (n : Nat) : (s.operatorRevoke tag n).InRange := by
  unfold State.operatorRevoke
  split
  · exact State.inRange_reply ((s.moves_endSeat n _).inRange h) _ _
  · exact State.inRange_reply ((s.moves_removeWaiting n _).inRange h) _ _
  · exact h

theorem State.inRange_operatorEnqueue {s : State} (h : s.InRange) (tag : Byte) (n i : Nat) :
    (s.operatorEnqueue tag n i).InRange := by
  have hlast : s.lastEmitted ≤ 65535 := by obtain ⟨⟨-, -, -, -, h, -⟩, -⟩ := h; exact h
  unfold State.operatorEnqueue
  split
  · exact h
  split
  · split
    · exact h
    split
    · exact h
    split
    · exact State.inRange_reply (((s.moves_insertWaiting n _ hlast).trans (State.moves_fill _)).inRange h) _ _
    · exact h
  · exact h

theorem State.inRange_operatorRemove {s : State} (h : s.InRange) (tag : Byte) (n : Nat) : (s.operatorRemove tag n).InRange := by
  unfold State.operatorRemove
  split
  · exact State.inRange_reply ((s.moves_removeWaiting n _).inRange h) _ _
  · exact h
  · exact h

theorem State.inRange_operatorNext {s : State} (h : s.InRange) (tag : Byte) : (s.operatorNext tag).InRange := by
  unfold State.operatorNext
  split
  · exact h
  · exact h
  · exact State.inRange_reply (s.moves_takeNext.inRange h) _ _

theorem State.inRange_operatorCancel {s : State} (h : s.InRange) (tag : Byte) : (s.operatorCancel tag).InRange := by
  unfold State.operatorCancel
  split
  · exact h
  · exact State.inRange_reply (s.moves_cancelFloor.inRange h) _ _

theorem State.inRange_operatorExtend {s : State} (h : s.InRange) (tag : Byte) (n k : Nat) : (s.operatorExtend tag n k).InRange := by
  unfold State.operatorExtend
  split
  · exact h
  · exact h
  · next c _ _ =>
    split
    · exact h
    · next r _ =>
      have h1 := (State.Moves.chan s c
        { s.chan c with
          remaining := some (min (r + k * Config.intervalsPerSecond) Config.remainingMax),
          warned := s.warnedAfterExtend (s.chan c).warned (min (r + k * Config.intervalsPerSecond) Config.remainingMax) }
        fun _ h => ⟨Nat.min_le_right _ _, h.2⟩).inRange h
      exact State.inRange_reply h1 _ _

theorem Seat.inRange_cleared {t : Seat} (h : t.InRange) : t.cleared.InRange := by
  obtain ⟨h1, h2, h3, h4, h5, -⟩ := h
  exact ⟨h1, h2, fun hp => by obtain ⟨a, b, -, -⟩ := h3 hp; exact ⟨a, b, rfl, rfl⟩, h4, h5, Nat.zero_le _⟩

theorem State.inRange_clearFlag {s : State} (h : s.InRange) (tag : Byte) (k : Nat) : (s.clearFlag tag k).InRange := by
  unfold State.clearFlag
  split
  · exact State.inRange_reply (State.inRange_withSeats h fun t ht => by
      obtain ⟨u, hu, rfl⟩ := List.mem_map.mp ht
      exact Seat.inRange_cleared (h.seats u hu)) _ _
  split
  · exact State.inRange_reply (State.inRange_updSeat h k Seat.inRange_cleared) _ _
  · exact h

theorem Seat.inRange_withConfig {t : Seat} (h : t.InRange) {e : SeatConfig} (he : e.level ≤ 32768) : (t.withConfig e).InRange := by
  unfold Seat.withConfig
  split
  · exact h
  · exact ⟨he, h.2⟩

theorem State.inRange_writeConfigs {l : List SeatConfig} (hl : ∀ e ∈ l, e.level ≤ 32768) {s : State} (h : s.InRange) (n : Nat) :
    (s.writeConfigs n l).InRange := by
  induction l generalizing s n with
  | nil => exact h
  | cons e l ih =>
    exact ih (fun x hx => hl x (List.mem_cons_of_mem _ hx)) (State.inRange_updSeat h n fun ht =>
      Seat.inRange_withConfig ht (hl e List.mem_cons_self)) _

theorem State.inRange_loadSeats {s : State} (h : s.InRange) (tag : Byte) (n : Nat) {l : List SeatConfig}
    (hl : ∀ e ∈ l, e.level ≤ 32768) : (s.loadSeats tag n l).InRange :=
  State.inRange_reply ((State.moves_takeOff _ _ _).inRange (State.inRange_writeConfigs hl h n)) _ _

theorem State.inRange_setGeneral {s : State} (h : s.InRange) (tag : Byte) {r : GeneralRecord} (hr : (Directive.setGeneral r).InRange) :
    (s.setGeneral tag r).InRange := by
  obtain ⟨hm, hrot⟩ := hr
  refine State.inRange_reply ((State.moves_fill _).inRange ?_) _ _
  obtain ⟨⟨c1, c2, c3, c4, c5, c6, c7, c8⟩, h2, -, h4⟩ := h
  refine ⟨⟨c1, c2, c3, c4, c5, c6, ?_, c8⟩, h2, hm, h4⟩
  cases hn : r.rotation with
  | none => exact c7
  | some n => exact hrot n hn

/-- The state after pin reset holds every value in its range. -/
theorem State.inRange_reset : State.reset.InRange := by
  refine ⟨by decide, by decide, by decide, by simp [State.reset], fun t ht => ?_, by decide, by decide⟩
  rw [List.eq_of_mem_replicate ht]; decide

/-- R8, R16: what a RESTART remembers of the discarded records. -/
theorem State.cutScan_range {s : State} (h : s.InRange) : ∀ d ∈ s.cutScan.2, d.number ≤ 65535 ∧ d.bytes ≤ 804 := by
  have hold : ∀ d ∈ s.discarded, d.number ≤ 65535 ∧ d.bytes ≤ 804 := h.discarded
  have hcut : ∀ d ∈ s.cutRecord, d.number ≤ 65535 ∧ d.bytes ≤ 804 := by
    have ha := h.awaiting
    unfold State.cutRecord
    intro d hd
    simp only at hd
    split at hd
    · cases hd
    · next k hk =>
      split at hd
      · cases hd
      · obtain rfl := List.mem_singleton.mp hd
        exact ⟨by simpa [hk] using ha, Nat.sub_le _ _⟩
  have happend {l : List Discarded} (hl : ∀ d ∈ l, d ∈ s.discarded) :
      ∀ d ∈ l ++ s.cutRecord, d.number ≤ 65535 ∧ d.bytes ≤ 804 := fun d hd =>
    (List.mem_append.mp hd).elim (fun hd => hold d (hl d hd)) (hcut d)
  unfold State.cutScan
  split
  · exact happend fun _ h => h
  · split
    · exact hold
    · next hd => exact happend (mem_of_dropWhile_eq hd)
  · exact hold
  · exact happend fun _ h => h

theorem State.inRange_restart {s : State} (h : s.InRange) (tag : Byte) : (s.restart tag).InRange := by
  obtain ⟨⟨c1, c2, -, c4, c5, c6, c7, c8, c9, -⟩, r, rest⟩ := State.inRange_reset
  have hlock : s.lockCount ≤ 48 := by obtain ⟨⟨-, -, h, -⟩, -⟩ := h; exact h
  exact ⟨⟨c1, c2, hlock, c4, c5, c6, c7, c8, c9, State.cutScan_range h⟩, r, rest⟩

/-! ### Every command -/

theorem State.inRange_oldest {s u : State} {e : Entry} (h : s.InRange) (ho : s.oldest = some (e, u)) : u.InRange := by
  unfold State.oldest at ho
  split at ho
  · cases ho
  · split at ho <;> cases ho
    exact h

theorem State.inRange_dispatchSkip {s : State} (h : s.InRange) : s.dispatchSkip.InRange := by
  unfold State.dispatchSkip
  split
  · exact h
  · next ho => split <;> [exact State.inRange_reply (State.inRange_oldest h ho) _ _; exact h]

theorem State.inRange_dispatchUnknown {s : State} (h : s.InRange) : s.dispatchUnknown.InRange := by
  unfold State.dispatchUnknown
  split
  · exact h
  · next ho => split <;> [exact State.inRange_reply (State.inRange_oldest h ho) _ _; exact h]

/-- Every command keeps every value in its range. -/
theorem State.inRange_exec {s t : State} (hi : s.InputSound) (h : s.InRange) {c : Instr} (ht : exec c s = .next t) : t.InRange := by
  cases c with
  | pinReset => cases ht; exact State.inRange_reset
  | framePeriod r b =>
    cases ht
    exact State.inRange_framePeriod (State.inRange_beforeFrame h).1 (State.inRange_beforeFrame h).2 r b
  | headLinkLock => cases ht; exact State.inRange_takeLock h
  | headLinkUnlock => cases ht; exact State.inRange_takeUnlock h
  | sweepIntervalStart o => cases ht; exact State.inRange_startInterval h o
  | blinkPhaseToggle => cases ht; exact State.inRange_takeBlink h
  | lockoutExpiry n => cases ht; exact State.inRange_takeLockout h n
  | expired c => cases ht; split <;> [exact (s.moves_tick c).inRange h; exact h]
  | timeOver c => cases ht; split <;> [exact (s.moves_tick c).inRange h; exact h]
  | lostSweep => cases ht; exact State.inRange_lostSweepStep h
  | trunkDown => cases ht; split <;> [exact State.inRange_lostSweepStep h; exact h]
  | sweepReturned => cases ht; exact State.inRange_takeReturn h
  | seatLost => cases ht; exact State.inRange_takeLosses h
  | request n => cases ht; exact State.inRange_present h n _ fun u _ hk => u.moves_judgeRequest n hk
  | withdraw n => cases ht; exact State.inRange_present h n _ fun u _ _ => u.moves_judgeWithdraw n
  | nextAction n => cases ht; exact State.inRange_present h n _ fun u _ _ => u.moves_judgeNext
  | cancelAction n => cases ht; exact State.inRange_present h n _ fun u _ _ => u.moves_judgeCancel
  | priorityHeld n => cases ht; exact State.inRange_present h n _ fun u _ _ => u.moves_judgePriorityHeld n
  | priorityReleased n => cases ht; exact State.inRange_present h n _ fun u _ _ => u.moves_judgePriorityReleased n
  | auditSweep => cases ht; exact State.inRange_takeAudit h
  | channelFreed c => cases ht; exact State.inRange_takeFreed h c
  | messageHeader => cases ht; exact State.inRange_of_input h s.sansInput_takeHeader
  | directiveComplete => cases ht; exact h
  | skipEntryDispatch => cases ht; exact State.inRange_dispatchSkip h
  | unknownKind => cases ht; exact State.inRange_dispatchUnknown h
  | loadSeats =>
    cases ht
    exact State.inRange_dispatch hi h 1 fun u tag d hu hd => by
      split <;> [exact State.inRange_loadSeats hu tag _ hd; exact hu]
  | readSeats =>
    cases ht
    exact State.inRange_dispatch hi h 2 fun u tag d hu _ => by cases d <;> exact hu
  | setGeneral =>
    cases ht
    exact State.inRange_dispatch hi h 3 fun u tag d hu hd => by
      split <;> [exact State.inRange_setGeneral hu tag hd; exact hu]
  | stageItem =>
    cases ht
    exact State.inRange_dispatch hi h 4 fun u tag d hu hd => by
      split <;> [exact State.inRange_stageItem hu tag hd; exact hu]
  | advanceItem =>
    cases ht
    exact State.inRange_dispatch hi h 5 fun u tag d hu _ => by
      split <;> [exact State.inRange_advanceItem hu tag; exact hu]
  | flushAgenda =>
    cases ht
    exact State.inRange_dispatch hi h 6 fun u tag d hu _ => by
      split <;> [exact State.inRange_flushAgenda hu tag; exact hu]
  | grant =>
    cases ht
    exact State.inRange_dispatch hi h 7 fun u tag d hu _ => by
      split <;> [exact State.inRange_operatorGrant hu tag _; exact hu]
  | revoke =>
    cases ht
    exact State.inRange_dispatch hi h 8 fun u tag d hu _ => by
      split <;> [exact State.inRange_operatorRevoke hu tag _; exact hu]
  | enqueue =>
    cases ht
    exact State.inRange_dispatch hi h 9 fun u tag d hu _ => by
      split <;> [exact State.inRange_operatorEnqueue hu tag _ _; exact hu]
  | remove =>
    cases ht
    exact State.inRange_dispatch hi h 10 fun u tag d hu _ => by
      split <;> [exact State.inRange_operatorRemove hu tag _; exact hu]
  | next =>
    cases ht
    exact State.inRange_dispatch hi h 11 fun u tag d hu _ => by
      split <;> [exact State.inRange_operatorNext hu tag; exact hu]
  | cancelAll =>
    cases ht
    exact State.inRange_dispatch hi h 12 fun u tag d hu _ => by
      split <;> [exact State.inRange_operatorCancel hu tag; exact hu]
  | extend =>
    cases ht
    exact State.inRange_dispatch hi h 13 fun u tag d hu _ => by
      split <;> [exact State.inRange_operatorExtend hu tag _ _; exact hu]
  | clearFlag =>
    cases ht
    exact State.inRange_dispatch hi h 14 fun u tag d hu _ => by
      split <;> [exact State.inRange_clearFlag hu tag _; exact hu]
  | readFloor =>
    cases ht
    exact State.inRange_dispatch hi h 15 fun u tag d hu _ => by cases d <;> exact hu
  | restart =>
    cases ht
    exact State.inRange_dispatch hi h 16 fun u tag d hu _ => by
      split <;> [exact State.inRange_restart hu tag; exact hu]
  | messageStart => cases ht; exact State.inRange_of_output h s.sansOutput_startMessage
  | messageSent => cases ht; exact State.inRange_of_output h s.sansOutput_finishMessage

/-- Settles O56: the floor's operations are made of elementary updates that keep the ranges (`State.Moves`), and each command is made
of those, of the chain's own counts and of directives whose stored fields decoding has brought into range. -/
theorem stepKeepsRanges : Obligations.StepKeepsRanges := by
  intro s t hi h ht
  unfold step at ht
  split at ht
  · cases ht; exact h
  · next c rest _ => exact State.inRange_exec (s := { s with pending := rest }) hi h ht

end Sys2Proof.Machine
end

section
/-! ## The laws at reset -/

namespace Sys2Proof.Machine

theorem State.seat_reset (n : Nat) : State.reset.seat n = Seat.reset := by
  cases n with
  | zero => rfl
  | succ k =>
    simp only [State.seat, State.reset, List.getD_eq_getElem?_getD, List.getElem?_replicate]
    split <;> rfl

theorem State.chan_reset (c : Chan) : State.reset.chan c = Channel.reset := PerChan.get_all _ c

theorem State.gain_reset (c : Chan) : State.reset.gain c = Gain.reset := PerChan.get_all _ c

/-- R56, R72, R73, R77, R102, R123: after pin reset the floor is CLOSED, both lists are empty and every channel is FREE. -/
theorem State.floorAgrees_reset : State.reset.FloorAgrees where
  seats := by simp [State.reset]
  agenda := by decide
  closed := by decide
  held := by decide
  untimed := rfl
  places n _ := by
    refine ⟨?_, ?_, fun c _ => ?_⟩
    · rw [State.seat_reset]; decide
    · rw [State.seat_reset]; simp [Seat.reset, State.reset]
    · rw [State.seat_reset, State.chan_reset]; simp [Seat.reset, Channel.reset]
  channels c _ := by simp [State.ChannelAgrees, State.chan_reset, Channel.reset]
  speakers c _ n _ := by rw [State.chan_reset]; simp [Channel.reset, State.reset]
  speakersOnce := by simp [State.reset]
  waitingOnce := by simp [State.reset]
  empty _ := ⟨rfl, rfl⟩

/-- R33, R74, R77, R80: after pin reset no seat is present, on the floor or armed. -/
theorem State.floorFits_reset : State.reset.FloorFits where
  seats n _ := by simp [State.SeatFits, State.seat_reset, Seat.reset]
  waiting c h := by simp [State.active, State.reset] at h
  speakers c h := by simp [State.active, State.reset] at h
  absent _ n _ := by rw [State.seat_reset]; rfl
  armed n _ h := by rw [State.seat_reset] at h; cases h

/-- Settles O53: each law is read off the values of pin reset. -/
theorem lawsHoldAtReset : Obligations.LawsHoldAtReset :=
  ⟨by decide, by decide, State.inRange_reset, by decide, State.floorAgrees_reset, State.floorFits_reset⟩

end Sys2Proof.Machine
end
section
/-! ## The head link -/

namespace Sys2Proof.Machine

/-- R13: with no transition of the head link due, none is taken. -/
theorem State.takeLock_of_settled {s : State} (h : s.LinkSettled) : s.takeLock = s := if_neg h.1

theorem State.takeUnlock_of_settled {s : State} (h : s.LinkSettled) : s.takeUnlock = s := by
  simp [State.takeUnlock, h.2]

/-- R163: without a header there is nothing to judge. -/
theorem State.takeHeader_of_none {s : State} (h : ∀ k g l d, s.rx ≠ .header [k, g, l] d) : s.takeHeader = s := by
  unfold State.takeHeader
  split
  · next hr => exact absurd hr (h _ _ _ _)
  · rfl

theorem State.takeHeader_of_header {s : State} {k g l : Byte} {d : Bool} (h : s.rx = .header [k, g, l] d) :
    s.takeHeader = s.judgeHeader k g l d := by simp [State.takeHeader, h]

/-- R163: of what a judged header adds to the buffer only a directive without a body is complete. -/
theorem State.complete_judgeHeader (s : State) (k g l : Byte) (d : Bool) :
    (s.judgeHeader k g l d).buffer.filter (fun e => e.complete) = (s.buffer.filter fun e => e.complete) ++
      if d = false ∧ l = 0 ∧ s.bytesHeld + 3 ≤ 1024 then
        [{ kind := k, tag := g, len := 0, skip := false, body := [], complete := true, decoded := none }]
      else [] := by
  have hzero : min l.toNat Config.bodyMax = 0 ↔ l = 0 := by
    rw [← BitVec.toNat_inj]; simp [Config.bodyMax]
  have hfree : ∀ n, 1 ≤ n → (n ≤ s.freeBytes ↔ s.bytesHeld + n ≤ 1024) := fun n hn => by
    simp only [State.freeBytes, Config.bufferBytes]; omega
  unfold State.judgeHeader State.addEntry
  cases d with
  | true => simp
  | false =>
    by_cases hl : l = 0
    · subst hl
      have h0 := hzero.mpr rfl
      by_cases hf : s.bytesHeld + 3 ≤ 1024
      · simp [hfree, hf]
      · simp [hfree, hf]
    · have h0 : min l.toNat Config.bodyMax ≠ 0 := fun h => hl (hzero.mp h)
      simp only [hl, false_and, and_false, if_false, List.append_nil, Bool.false_eq_true]
      split
      · simp [h0]
      · split <;> simp [h0]

/-- R13, R14: everything an unlock does, through the judged header and the message that has been sent. -/
theorem State.takeUnlock_due {s : State} (h : s.owed.unlock = true) :
    s.takeUnlock =
      { (s.setOwed { s.owed with unlock := false }).takeHeader.finishMessage.dropPartial with
        link := .unlocked, lockCount := 0, sending := none } := by
  simp [State.takeUnlock, h]

/-- R163: a message whose last byte has not been sent stays. -/
theorem State.finishMessage_of_unsent {s : State} (h : ∀ m, s.sending = some m → m.rest ≠ []) : s.finishMessage = s := by
  unfold State.finishMessage
  split
  · next hs => exact absurd rfl (h _ hs)
  · next hs => exact absurd rfl (h _ hs)
  · next hs => exact absurd rfl (h _ hs)
  · rfl

@[simp] theorem State.sansUnlock_takeUnlock (s : State) : s.takeUnlock.sansUnlock = s.sansUnlock := by
  unfold State.takeUnlock
  split
  · have h1 := congrArg State.sansUnlock (s.setOwed { s.owed with unlock := false }).sansInput_takeHeader
    have h2 := congrArg State.sansUnlock (s.setOwed { s.owed with unlock := false }).takeHeader.sansOutput_finishMessage
    exact (h2.trans h1 : _)
  · rfl

/-- R14, R163: the buffer at an unlock: the complete entries after the header that has arrived is judged. -/
theorem State.takeUnlock_buffer {s : State} (h : s.owed.unlock = true) :
    s.takeUnlock.buffer =
      (s.setOwed { s.owed with unlock := false }).takeHeader.buffer.filter (fun e => e.complete) := by
  rw [State.takeUnlock_due h]
  exact congrArg (fun u : State => u.buffer.filter fun e => e.complete) (State.sansOutput_finishMessage _)

/-- R13: after an unlock none is due. -/
theorem State.unlock_takeUnlock (s : State) : s.takeUnlock.owed.unlock = false := by
  by_cases h : s.owed.unlock = true
  · rw [State.takeUnlock_due h]
    exact (congrArg (·.owed.unlock) (State.sansOutput_finishMessage _)).trans
      (congrArg (·.owed.unlock) (State.sansInput_takeHeader _))
  · rw [State.takeUnlock, if_neg h]
    simpa using h

/-- Settles O4: the lock is the command itself; at the unlock the header's judgement decides what the buffer holds. -/
theorem headLinkLocksAndUnlocks : Obligations.HeadLinkLocksAndUnlocks := by
  refine ⟨fun s h1 h2 => ?_, fun s hu => ⟨s.takeUnlock, rfl, ?_, fun hr => ?_, fun k g hr hb => ?_, fun k g l d hr hb => ?_,
    fun hs => ?_⟩⟩
  · exact congrArg Host.Outcome.next (if_pos ⟨h1, h2⟩)
  · refine (State.sansUnlock_eq s.sansUnlock_takeUnlock).trans ?_
    rw [State.unlock_takeUnlock, State.takeUnlock_due hu]
    rfl
  · rw [State.takeUnlock_buffer hu, State.takeHeader_of_none (by exact hr)]; rfl
  · rw [State.takeUnlock_buffer hu, State.takeHeader_of_header (by exact hr), State.complete_judgeHeader]
    exact congrArg _ (if_pos ⟨rfl, rfl, hb⟩)
  · rw [State.takeUnlock_buffer hu, State.takeHeader_of_header (by exact hr), State.complete_judgeHeader, if_neg]
    · exact List.append_nil _
    · rintro ⟨rfl, rfl, hle⟩
      obtain hb | hb | hb := hb
      · cases hb
      · exact hb rfl
      · exact absurd hle (Nat.not_le.mpr hb)
  · rw [State.takeUnlock_due hu]
    have h1 := (s.setOwed { s.owed with unlock := false }).sansInput_takeHeader
    have hsend : (s.setOwed { s.owed with unlock := false }).takeHeader.sending = s.sending := congrArg (·.sending) h1
    rw [State.finishMessage_of_unsent (by rwa [hsend])]
    exact ⟨congrArg (·.replies) h1, congrArg (·.notices) h1, congrArg (·.overrun) h1, congrArg (·.lostCount) h1⟩

end Sys2Proof.Machine
end

section
/-! ## The frame period: what it takes first, and the trunk frame -/

namespace Sys2Proof.Machine

/-! ### Commands taken one after another -/

@[simp] theorem State.run_nil (s : State) : s.run [] = s := rfl

/-- A command that answers next, and those behind it. -/
theorem State.run_cons {s t : State} {c : Instr} (h : exec c s = .next t) (rest : List Instr) :
    s.run (c :: rest) = t.run rest := by simp [State.run, h]

/-- One command for each element of a list. -/
theorem State.run_map {α : Type} {f : α → Instr} {g : State → α → State} (l : List α) (s : State)
    (h : ∀ (u : State) (a : α), exec (f a) u = .next (g u a)) : s.run (l.map f) = l.foldl g s := by
  induction l generalizing s with
  | nil => rfl
  | cons a l ih => rw [List.map_cons, State.run_cons (h s a), ih, List.foldl_cons]

/-! ### What stands due before a frame period (R10, R13, R113, R144) -/

/-- R144: with no channel reported, none is freed. -/
theorem State.takeAllFreed_of_nil {s : State} (h : s.owed.freed = []) : s.takeAllFreed = s := by
  have : { s.owed with freed := [] } = s.owed := by rw [← h]
  simp only [State.takeAllFreed, h, List.foldl_nil, this]; rfl

/-- A transition of the head link leaves what the last frame step reported. -/
theorem State.freed_takeUnlock (s : State) : s.takeLock.takeUnlock.owed.freed = s.owed.freed := by
  have h1 : s.takeLock.takeUnlock.owed.freed = s.takeLock.owed.freed := congrArg (·.owed.freed) (State.sansUnlock_takeUnlock _)
  rw [h1, State.takeLock]; split <;> rfl

/-- R13: after the link's transitions none is due. -/
theorem State.linkSettled_takeUnlock (s : State) : s.takeLock.takeUnlock.LinkSettled := by
  refine ⟨?_, State.unlock_takeUnlock _⟩
  by_cases hu : s.takeLock.owed.unlock = true
  · rw [State.takeUnlock_due hu]; simp
  · rw [State.takeUnlock, if_neg hu, State.takeLock]
    split
    · simp
    · next h => exact h

/-- R113: a fill makes no channel RELEASING. -/
theorem State.grantHeads_not_releasing (k : Nat) {s : State} {c : Chan} (h : (s.chan c).state ≠ .releasing) :
    ((State.grantHeads k s).chan c).state ≠ .releasing := by
  induction k generalizing s with
  | zero => exact h
  | succ k ih =>
    unfold State.grantHeads
    split
    · next rest d _ _ =>
      refine ih ?_
      by_cases hd : c = d
      · subst hd; rw [State.grant_chan_same]; simp
      · rw [State.grant_chan_ne _ _ _ hd]; exact h
    · exact h

theorem State.fill_not_releasing {s : State} {c : Chan} (h : (s.chan c).state ≠ .releasing) :
    (s.fill.chan c).state ≠ .releasing := by
  unfold State.fill; split <;> [exact State.grantHeads_not_releasing _ h; exact h]

/-- R144: everything a CHANNEL_FREED does to what is reported and what is RELEASING. -/
theorem State.takeFreed_reports {s : State} {c d : Chan} (h : d ∈ (s.takeFreed c).owed.freed) :
    d ∈ s.owed.freed ∧ ((d = c ∨ (s.chan d).state ≠ .releasing) → ((s.takeFreed c).chan d).state ≠ .releasing) := by
  unfold State.takeFreed at h ⊢
  split at h
  · next hdue =>
    rw [if_pos hdue]
    have hf : (s.freeChan c).fill.owed.freed = s.owed.freed.filter fun e => e != c := by
      rw [State.frozen_owed (State.frozen_fill _)]; rfl
    rw [hf, List.mem_filter] at h
    obtain ⟨hm, hne⟩ := h
    have hne : d ≠ c := by simpa using hne
    refine ⟨hm, fun hd => State.fill_not_releasing ?_⟩
    rw [State.freeChan, State.chan_setOwed, State.chan_setChan_ne _ _ hne]
    exact hd.resolve_left hne
  · next hdue =>
    rw [if_neg hdue]
    refine ⟨h, fun hd => hd.elim (fun hc => ?_) id⟩
    subst hc
    simpa [State.freedDue, h] using hdue

/-- R144: after every report has been taken, what is left of them is of channels no longer RELEASING. -/
theorem State.foldl_takeFreed_reports (l : List Chan) {s : State}
    (h : ∀ d ∈ s.owed.freed, d ∈ l ∨ (s.chan d).state ≠ .releasing) :
    ∀ d ∈ (l.foldl State.takeFreed s).owed.freed, ((l.foldl State.takeFreed s).chan d).state ≠ .releasing := by
  induction l generalizing s with
  | nil => exact fun d hd => (h d hd).resolve_left (by simp)
  | cons c l ih =>
    refine ih fun d hd => ?_
    obtain ⟨hm, hr⟩ := State.takeFreed_reports hd
    obtain hd | hd := h d hm
    · obtain rfl | hd := List.mem_cons.mp hd
      · exact .inr (hr (.inl rfl))
      · exact .inl hd
    · exact .inr (hr (.inr hd))

/-- R144: channels freed by command beforehand are freed once. -/
theorem State.takeAllFreed_foldl (s : State) : (s.owed.freed.foldl State.takeFreed s).takeAllFreed = s.takeAllFreed := by
  have h := State.foldl_takeFreed_reports s.owed.freed (s := s) fun d hd => .inl hd
  generalize hv : s.owed.freed.foldl State.takeFreed s = v at h
  have hid : ∀ l : List Chan, (∀ d ∈ l, d ∈ v.owed.freed) → l.foldl State.takeFreed v = v := by
    intro l
    induction l with
    | nil => exact fun _ => rfl
    | cons c l ih =>
      intro hl
      have hc : v.takeFreed c = v := by
        have := h c (hl c List.mem_cons_self)
        simp [State.takeFreed, State.freedDue, this]
      rw [List.foldl_cons, hc, ih fun d hd => hl d (List.mem_cons_of_mem _ hd)]
  simp only [State.takeAllFreed, hv, hid _ fun _ hd => hd]

/-- R113: freeing channels makes no transition of the head link due. -/
theorem State.linkSettled_foldl_takeFreed (l : List Chan) {s : State} (h : s.LinkSettled) :
    (l.foldl State.takeFreed s).LinkSettled := by
  induction l generalizing s with
  | nil => exact h
  | cons c l ih =>
    refine ih ?_
    unfold State.takeFreed
    split
    · obtain ⟨-, e1, e2, e3, -⟩ := State.unswept_chain (State.unswept_of_frozen (s.freeChan c).frozen_fill)
      rwa [State.LinkSettled, e1, e2, e3]
    · exact h

/-- The frame period takes nothing where nothing stands due. -/
theorem State.beforeFrame_of_settled {s : State} (hl : s.LinkSettled) (hf : s.owed.freed = []) :
    s.beforeFrame = (s.startInterval .emissionFirst).settleFirst := by
  rw [State.beforeFrame, State.takeLock_of_settled hl, State.takeUnlock_of_settled hl, State.takeAllFreed_of_nil hf]

theorem State.startInterval_of_running {s : State} (h : s.frame ≠ 96) (o : IntervalOrder) : s.startInterval o = s := if_neg h

/-! ### What an earlier sweep has left due (R10, R51, R154) -/

/-- The owed steps without the expiries, which an End can void. -/
def Owed.sansExpiries (o : Owed) : Owed := { o with lockouts := [], timers := [] }

theorem State.sansExpiries_of_frozen {s t : State} (h : t.frozen = s.frozen) : t.owed.sansExpiries = s.owed.sansExpiries :=
  (congrArg State.owed h : _)

theorem State.sansExpiries_foldl {α : Type} {f : State → α → State}
    (h : ∀ (s : State) (a : α), (f s a).owed.sansExpiries = s.owed.sansExpiries) (l : List α) (s : State) :
    (l.foldl f s).owed.sansExpiries = s.owed.sansExpiries := by
  induction l generalizing s with
  | nil => rfl
  | cons a l ih => rw [List.foldl_cons, ih, h]

theorem State.sansExpiries_declareLost (s : State) (k : Nat) : (s.declareLost k).owed.sansExpiries = s.owed.sansExpiries := by
  unfold State.declareLost State.breakTrunk
  simp only
  split
  · rw [State.sansExpiries_of_frozen (State.frozen_breakFloor _)]
    simp [State.loseAllSeats]
  · rfl

theorem State.sansExpiries_declareOwedLoss (s : State) :
    s.declareOwedLoss.owed.sansExpiries = { s.owed.sansExpiries with lostSweep := none } := by
  unfold State.declareOwedLoss
  split
  · next h => simp [Owed.sansExpiries, h]
  · rw [State.sansExpiries_declareLost]; rfl

theorem State.sansExpiries_takeLosses (s : State) :
    s.takeLosses.owed.sansExpiries = { s.owed.sansExpiries with losses := [] } := by
  unfold State.takeLosses State.loseSeats
  simp only
  rw [State.sansExpiries_of_frozen (State.frozen_takeOff _ _ _), State.sansExpiries_foldl (by simp)]
  rfl

theorem State.sansExpiries_reportOne (s : State) : s.reportOne.owed.sansExpiries = s.owed.sansExpiries := by
  unfold State.reportOne
  split
  · rfl
  · split
    · rfl
    · rw [State.reportSeat, State.sansExpiries_of_frozen (State.frozen_removeReported _ _)]
      simp

theorem State.sansExpiries_takeAudit (s : State) :
    s.takeAudit.owed.sansExpiries = { s.owed.sansExpiries with audit := none } := by
  unfold State.takeAudit State.compareAll
  split
  · next h => simp [Owed.sansExpiries, h]
  · rw [State.sansExpiries_reportOne, State.sansExpiries_foldl]
    · rfl
    · intro u e; unfold State.compareEntry; split <;> simp

/-- R10: with no loss left to be declared, none is. -/
theorem State.declareOwedLoss_of_none {s : State} (h : s.owed.lostSweep = none) : s.declareOwedLoss = s := by
  simp [State.declareOwedLoss, h]

theorem State.presentAll_of_none {s : State} (h : s.owed.actions = none) : s.presentAll = s := by
  simp [State.presentAll, h]

theorem State.takeLosses_of_nil {s : State} (h : s.owed.losses = []) : s.takeLosses = s := by
  have : { s.owed with losses := [] } = s.owed := by rw [← h]
  simp only [State.takeLosses, h, List.filter_nil, this]
  rfl

theorem State.takeAudit_of_none {s : State} (h : s.owed.audit = none) : s.takeAudit = s := by simp [State.takeAudit, h]

/-- With nothing left due by an earlier sweep, nothing is taken. -/
theorem State.settleSweep_of_settled {s : State} (h : s.SweepSettled) : s.settleSweep = s := by
  obtain ⟨h1, h2, h3, h4⟩ := h
  rw [State.settleSweep, State.declareOwedLoss_of_none h1, State.presentAll_of_none h2, State.takeLosses_of_nil h3,
    State.takeAudit_of_none h4]

/-- The losses and the audit left due, taken one after the other, leave neither due. -/
theorem State.sweepSettled_takeAudit {s : State} (h1 : s.owed.lostSweep = none) (h2 : s.owed.actions = none) :
    s.takeLosses.takeAudit.SweepSettled := by
  have h := s.takeLosses.sansExpiries_takeAudit
  rw [State.sansExpiries_takeLosses] at h
  exact ⟨(congrArg Owed.lostSweep h).trans h1, (congrArg Owed.actions h).trans h2, congrArg Owed.losses h,
    congrArg Owed.audit h⟩

/-- R10: within an interval only a loss left due is declared. -/
theorem State.lostSweepStep_of_running {s : State} (h : s.frame ≠ 96) : s.lostSweepStep = s.declareOwedLoss := by
  unfold State.lostSweepStep
  split
  · rfl
  · next hn =>
    rw [State.declareOwedLoss_of_none hn, State.declareAwaitedLoss]
    split
    · rfl
    · exact if_neg h

/-! ### Key actions taken one by one (R51) -/

/-- The key action `a` of seat `n`, as a command. -/
theorem exec_command (a : KeyAct) (n : Nat) (s : State) :
    exec (a.command n) s = .next (s.present n a fun s k => s.answer a n k) := by cases a <;> rfl

/-- R51: the next slot, `rest` behind it, gives its action, or is spent. -/
def State.takeNextSlot (s : State) (k : Nat) (slot : KeySlot) (rest : List KeySlot) : State :=
  match s.deriveSlot slot with
  | none => (s.keepSlots k rest).spend slot
  | some a => (s.keepSlots k rest).answer a slot.seat k

theorem State.takeNextSlot_none {s : State} {slot : KeySlot} (h : s.deriveSlot slot = none) (k : Nat) (rest : List KeySlot) :
    s.takeNextSlot k slot rest = (s.keepSlots k rest).spend slot := by simp [State.takeNextSlot, h]

theorem State.takeNextSlot_some {s : State} {slot : KeySlot} {a : KeyAct} (h : s.deriveSlot slot = some a) (k : Nat)
    (rest : List KeySlot) : s.takeNextSlot k slot rest = (s.keepSlots k rest).answer a slot.seat k := by
  simp [State.takeNextSlot, h]

theorem State.presentSlots_cons (k : Nat) (slot : KeySlot) (rest : List KeySlot) (s : State) :
    State.presentSlots k (slot :: rest) s = State.presentSlots k rest (s.takeNextSlot k slot rest) := by
  rw [State.presentSlots]
  cases h : s.deriveSlot slot with
  | none => rw [State.takeNextSlot_none h]
  | some a => rw [State.takeNextSlot_some h]

/-- What the next slot leaves: the presentation with the slots behind it, and the other steps due. -/
theorem State.sansExpiries_takeNextSlot (s : State) (k : Nat) (slot : KeySlot) (rest : List KeySlot) :
    (s.takeNextSlot k slot rest).owed.sansExpiries =
      { s.owed.sansExpiries with actions := some { sweep := k, slots := rest } } := by
  cases h : s.deriveSlot slot with
  | none =>
    rw [State.takeNextSlot_none h, State.spend]
    split
    · simp [State.keepSlots, Owed.sansExpiries]
    · rfl
  | some a =>
    rw [State.takeNextSlot_some h, State.sansExpiries_of_frozen (State.frozen_answer _ _ _ _)]
    rfl

theorem State.unswept_takeNextSlot (s : State) (k : Nat) (slot : KeySlot) (rest : List KeySlot) :
    (s.takeNextSlot k slot rest).unswept = s.unswept := by
  cases h : s.deriveSlot slot with
  | none => rw [State.takeNextSlot_none h]; simp
  | some a => rw [State.takeNextSlot_some h, State.unswept_of_frozen (State.frozen_answer _ _ _ _), State.unswept_keepSlots]

/-- R51: the command of the next slot's action, or of one that could come of it, takes that slot. -/
theorem State.run_slot {s : State} {k : Nat} {slot : KeySlot} {rest : List KeySlot} {a : KeyAct}
    (h : s.owed.actions = some { sweep := k, slots := slot :: rest })
    (ha : (s.seat slot.seat).derive slot.event = some a ∨
      ((s.seat slot.seat).derive slot.event = none ∧ a.comesFrom slot.event = true)) :
    s.run [a.command slot.seat] = (s.takeNextSlot k slot rest).closePresentation := by
  rw [State.run_cons (exec_command a slot.seat s), State.run_nil]
  obtain hd | ⟨hd, hc⟩ := ha
  · rw [State.present_due ⟨h, hd⟩, State.takeNextSlot_some hd]
  · rw [State.present_spent h hd hc, State.takeNextSlot_none hd]

/-- R51, R79: a presentation that goes on with `rest` is completed by its slots, whether or not it has been closed. -/
theorem State.presentAll_closePresentation {s : State} {k : Nat} {rest : List KeySlot}
    (h : s.owed.actions = some { sweep := k, slots := rest }) :
    s.closePresentation.presentAll = (State.presentSlots k rest s).endPresentation := by
  cases rest with
  | nil => simp only [State.closePresentation, h]; rfl
  | cons x rest => simp [State.closePresentation, State.presentAll, h]

/-- R51: taking the next slot by command first leaves what presenting them all leaves. -/
theorem State.presentAll_slot {s : State} {k : Nat} {slot : KeySlot} {rest : List KeySlot}
    (h : s.owed.actions = some { sweep := k, slots := slot :: rest }) :
    (s.takeNextSlot k slot rest).closePresentation.presentAll = s.presentAll := by
  have hn : (s.takeNextSlot k slot rest).owed.actions = some { sweep := k, slots := rest } :=
    (congrArg Owed.actions (s.sansExpiries_takeNextSlot k slot rest) : _)
  rw [State.presentAll_closePresentation hn, State.presentAll, h]
  simp only [State.presentSlots_cons]

theorem State.lostSweep_closePresentation (s : State) : s.closePresentation.owed.lostSweep = s.owed.lostSweep := by
  unfold State.closePresentation; split <;> rfl

/-- R51: what an earlier sweep has left due, with the next slot taken by command first. -/
theorem State.settleSweep_slot {s : State} {k : Nat} {slot : KeySlot} {rest : List KeySlot} (hl : s.owed.lostSweep = none)
    (h : s.owed.actions = some { sweep := k, slots := slot :: rest }) :
    (s.takeNextSlot k slot rest).closePresentation.settleSweep = s.settleSweep := by
  have hn : (s.takeNextSlot k slot rest).closePresentation.owed.lostSweep = none := by
    rw [State.lostSweep_closePresentation]
    exact (congrArg Owed.lostSweep (s.sansExpiries_takeNextSlot k slot rest) : _).trans hl
  rw [State.settleSweep, State.declareOwedLoss_of_none hn, State.presentAll_slot h, State.settleSweep,
    State.declareOwedLoss_of_none hl]

/-- R10, R154: the loss, the losses of seats and the audit left due, taken by command first. -/
theorem State.settleSweep_commands {s : State} (ha : s.owed.actions = none) :
    s.declareOwedLoss.takeLosses.takeAudit = s.settleSweep ∧ s.settleSweep.SweepSettled := by
  have h := s.sansExpiries_declareOwedLoss
  have h1 : s.declareOwedLoss.owed.lostSweep = none := congrArg Owed.lostSweep h
  have h2 : s.declareOwedLoss.owed.actions = none := (congrArg Owed.actions h).trans ha
  have he : s.settleSweep = s.declareOwedLoss.takeLosses.takeAudit := by
    rw [State.settleSweep, State.presentAll_of_none h2]
  exact ⟨he.symm, he ▸ State.sweepSettled_takeAudit h1 h2⟩

/-! ### The first frame period of an interval -/

/-- What the steps of an earlier sweep leave of the link and the frame, a frame period finds as it was. -/
theorem State.beforeFrame_of_unswept {s t : State} (hl : s.LinkSettled) (hf : s.owed.freed = []) (h0 : s.frame = 0)
    (h : t.unswept = s.unswept) : t.beforeFrame = t.settleSweep := by
  obtain ⟨e0, e1, e2, e3, e4, -⟩ := State.unswept_chain h
  have hf0 : t.frame = 0 := e0.trans h0
  rw [State.beforeFrame_of_settled (by rwa [State.LinkSettled, e1, e2, e3]) (e4.trans hf),
    State.startInterval_of_running (by omega), State.settleFirst, if_pos hf0]

theorem exec_framePeriod (r h : Option (List Byte)) (s : State) :
    exec (.framePeriod r h) s = .next (s.beforeFrame.framePeriod r h) := rfl

/-- A frame period looks only at what stands once it has taken what is due. -/
theorem exec_framePeriod_congr {s t : State} (h : t.beforeFrame = s.beforeFrame) (r b : Option (List Byte)) :
    exec (.framePeriod r b) s = exec (.framePeriod r b) t := by rw [exec_framePeriod, exec_framePeriod, h]

/-- Settles O5: each group of commands leaves a state before which the frame period takes what it would have taken itself. -/
theorem framePeriodTakesWhatIsDue : Obligations.FramePeriodTakesWhatIsDue := by
  refine fun s r b => ⟨exec_framePeriod_congr ?_ r b, fun hl hf h96 => exec_framePeriod_congr ?_ r b,
    fun hl hf h0 ha => exec_framePeriod_congr ?_ r b, fun k slot rest a hl hf h0 hlost ha hd => exec_framePeriod_congr ?_ r b⟩
  · have hrun : s.run ([.headLinkLock, .headLinkUnlock] ++ s.owed.freed.map Instr.channelFreed) =
        s.owed.freed.foldl State.takeFreed s.takeLock.takeUnlock :=
      State.run_map (g := State.takeFreed) _ s.takeLock.takeUnlock fun _ _ => rfl
    rw [hrun, ← s.freed_takeUnlock]
    have hv := State.linkSettled_foldl_takeFreed s.takeLock.takeUnlock.owed.freed s.linkSettled_takeUnlock
    simp only [State.beforeFrame, State.takeLock_of_settled hv, State.takeUnlock_of_settled hv, State.takeAllFreed_foldl]
  · rw [State.run_cons (t := s.startInterval .emissionFirst) rfl, State.run_nil, State.beforeFrame_of_settled hl hf]
    obtain ⟨e1, e2, e3, e4, e5⟩ := s.startInterval_keeps .emissionFirst
    rw [State.beforeFrame_of_settled (by rwa [State.LinkSettled, e1, e2, e3]) (e4.trans hf),
      State.startInterval_of_running (by rw [e5, if_pos h96]; decide)]
  · have hrun : s.run [.lostSweep, .seatLost, .auditSweep] = s.settleSweep := by
      rw [← (State.settleSweep_commands ha).1, ← State.lostSweepStep_of_running (by omega)]; rfl
    rw [hrun, State.beforeFrame_of_unswept hl hf h0 s.unswept_settleSweep, State.beforeFrame_of_unswept hl hf h0 rfl,
      State.settleSweep_of_settled (State.settleSweep_commands ha).2]
  · rw [State.run_slot ha hd, State.beforeFrame_of_unswept hl hf h0 rfl, State.beforeFrame_of_unswept hl hf h0 (by
      rw [State.unswept_closePresentation, State.unswept_takeNextSlot]), State.settleSweep_slot hlost ha]

end Sys2Proof.Machine
end

section
/-! ## The frame period itself -/

namespace Sys2Proof.Machine

/-! ### Which part of a frame period writes which field -/

theorem State.headIn_keeps (s : State) (h : Option (List Byte)) :
    (s.headIn h).trunkOut = s.trunkOut ∧ (s.headIn h).stream = s.stream ∧ (s.headIn h).frame = s.frame ∧
      (s.headIn h).link = s.link ∧ (s.headIn h).gains = s.gains ∧ (s.headIn h).headOut = s.headOut ∧
      (s.headIn h).sending = s.sending ∧ (s.headIn h).replies = s.replies ∧ (s.headIn h).notices = s.notices ∧
      (s.headIn h).overrun = s.overrun ∧ (s.headIn h).lostCount = s.lostCount := by
  have e := s.sansHeadIn_headIn h
  generalize s.headIn h = t at e ⊢
  exact ⟨congrArg (·.trunkOut) e, congrArg (·.stream) e, congrArg (·.frame) e, congrArg (·.link) e,
    congrArg (·.gains) e, congrArg (·.headOut) e, congrArg (·.sending) e, congrArg (·.replies) e,
    congrArg (·.notices) e, congrArg (·.overrun) e, congrArg (·.lostCount) e⟩

theorem State.sendHeadFrame_keeps (s : State) (x : PerChan Sample) :
    (s.sendHeadFrame x).trunkOut = s.trunkOut ∧ (s.sendHeadFrame x).stream = s.stream ∧
      (s.sendHeadFrame x).frame = s.frame ∧ (s.sendHeadFrame x).link = s.link ∧ (s.sendHeadFrame x).gains = s.gains ∧
      (s.sendHeadFrame x).lockCount = s.lockCount ∧ (s.sendHeadFrame x).rx = s.rx ∧
      (s.sendHeadFrame x).buffer = s.buffer ∧ (s.sendHeadFrame x).owed = s.owed := by
  have e := s.sansHeadOut_sendHeadFrame x
  generalize s.sendHeadFrame x = t at e ⊢
  exact ⟨congrArg (·.trunkOut) e, congrArg (·.stream) e, congrArg (·.frame) e, congrArg (·.link) e,
    congrArg (·.gains) e, congrArg (·.lockCount) e, congrArg (·.rx) e, congrArg (·.buffer) e,
    congrArg (·.owed) e⟩

/-- The state in which a frame period sends its head frame: the trunk frame is out, the scan has its bytes, the gains have moved. -/
def State.gainsStepped (s : State) (r : Option (List Byte)) : State := (s.emitFrame.scanFrame r).stepGains

theorem State.framePeriod_def (s : State) (r h : Option (List Byte)) :
    s.framePeriod r h = ((s.gainsStepped r).sendHeadFrame (uplink r)).headIn h := rfl

/-- Everything of that state but the trunk frame, the scan, the gains and the reports is as before. -/
theorem State.gainsStepped_eq (s : State) (r : Option (List Byte)) :
    s.gainsStepped r = { s with
      trunkOut := trunkFrame s.programOut (nextStreamBytes s.stream), stream := s.stream.drop 12, frame := s.frame + 1,
      scan := (s.gainsStepped r).scan, awaiting := (s.gainsStepped r).awaiting, discarded := (s.gainsStepped r).discarded,
      gains := (s.gainsStepped r).gains,
      owed := { s.owed with returned := (s.gainsStepped r).owed.returned, freed := (s.gainsStepped r).owed.freed } } := by
  have e := State.sansScan_eq (s.emitFrame.sansScan_scanFrame r)
  unfold State.gainsStepped
  generalize s.emitFrame.scanFrame r = u at e
  generalize hg : u.stepGains = v
  have hv : v = { u with gains := v.gains, owed := { u.owed with freed := v.owed.freed } } := by rw [← hg]; rfl
  rw [hv, e]
  rfl

/-! ### The trunk frame (R1, R2, R4, R17) -/

/-- A frame period that is ready takes nothing first. -/
theorem State.beforeFrame_of_ready {s : State} (h : s.FrameReady) : s.beforeFrame = s := by
  obtain ⟨hl, hf, hlt, h0⟩ := h
  rw [State.beforeFrame_of_settled hl hf, State.startInterval_of_running (by omega), State.settleFirst]
  split <;> [exact State.settleSweep_of_settled (h0 ‹_›); rfl]

theorem exec_framePeriod_of_ready {s : State} (h : s.FrameReady) (r b : Option (List Byte)) :
    exec (.framePeriod r b) s = .next (s.framePeriod r b) := by rw [exec_framePeriod, State.beforeFrame_of_ready h]

/-- R1, R4: the trunk frame and the place in the record and in the interval after a frame period. -/
theorem State.framePeriod_trunk (s : State) (r h : Option (List Byte)) :
    (s.framePeriod r h).trunkOut = trunkFrame s.programOut (nextStreamBytes s.stream) ∧
      (s.framePeriod r h).stream = s.stream.drop 12 ∧ (s.framePeriod r h).frame = s.frame + 1 := by
  obtain ⟨a1, a2, a3, -⟩ := State.headIn_keeps ((s.gainsStepped r).sendHeadFrame (uplink r)) h
  obtain ⟨b1, b2, b3, -⟩ := (s.gainsStepped r).sendHeadFrame_keeps (uplink r)
  rw [State.framePeriod_def, a1, a2, a3, b1, b2, b3, State.gainsStepped_eq]
  exact ⟨rfl, rfl, rfl⟩

theorem length_sampleBytes (x : Sample) : (sampleBytes x).length = 3 := rfl

/-- Settles O6: the frame is that of `emitFrame`, and what a frame period can reach is what `sansFrame` leaves out. -/
theorem framePeriodEmitsTrunkFrame : Obligations.FramePeriodEmitsTrunkFrame := by
  intro s r h hr
  obtain ⟨h1, h2, h3⟩ := s.framePeriod_trunk r h
  refine ⟨_, exec_framePeriod_of_ready hr r h, ?_, ?_, h2, h3, State.sansFrame_eq (s.sansFrame_framePeriod r h)⟩
  · rw [h1, trunkFrame, State.programOut]
    split <;> rfl
  · simp [h1, trunkFrame, nextStreamBytes, length_sampleBytes, Config.streamBytesPerFrame]

/-! ### The outgoing stream (R165, R166) -/

/-- What the outgoing message stream depends on. -/
def State.outView (s : State) : LinkState × Option Sending × List Reply × List Notice × Bool × Nat :=
  (s.link, s.sending, s.replies, s.notices, s.overrun, s.lostCount)

theorem State.outView_fields {s t : State} (h : t.outView = s.outView) :
    t.link = s.link ∧ t.sending = s.sending ∧ t.replies = s.replies ∧ t.notices = s.notices ∧ t.overrun = s.overrun ∧
      t.lostCount = s.lostCount := by simpa [State.outView] using h

theorem State.finishMessage_congr {s t : State} (h : t.outView = s.outView) : t.finishMessage.outView = s.finishMessage.outView := by
  obtain ⟨h1, h2, h3, h4, h5, h6⟩ := State.outView_fields h
  unfold State.finishMessage
  rw [h2]
  split
  · simp [State.outView, *]
  · unfold State.departNotice
    simp only [h5]
    split <;> simp [State.outView, *]
  · simp [State.outView, *]
  · exact h

theorem State.startMessage_congr {s t : State} (h : t.outView = s.outView) : t.startMessage.outView = s.startMessage.outView := by
  obtain ⟨h1, h2, h3, h4, h5, h6⟩ := State.outView_fields h
  unfold State.startMessage
  simp only [h1, h2, h3, h4]
  split
  · split
    · simp [State.outView, *]
    · simp [State.outView, *]
    · exact h
  · exact h

theorem State.readyByte_congr {s t : State} (h : t.outView = s.outView) : t.readyByte.outView = s.readyByte.outView :=
  State.startMessage_congr (State.finishMessage_congr h)

theorem State.byteSent_congr {s t : State} (h : t.outView = s.outView) : t.byteSent.outView = s.byteSent.outView := by
  obtain ⟨h1, h2, h3, h4, h5, h6⟩ := State.outView_fields h
  exact State.finishMessage_congr (by simp [State.outView, *])

theorem State.nextByte_congr {s t : State} (h : t.outView = s.outView) : t.nextByte = s.nextByte := by
  obtain ⟨-, h2, -⟩ := State.outView_fields h
  rw [State.nextByte, h2, State.nextByte]

/-- R165: one outgoing byte position is the byte that stands next and the state with it sent. -/
theorem State.outByte_eq (s : State) : s.outByte = (s.readyByte.nextByte, s.readyByte.byteSent) := by
  have hrun : s.run [.messageSent, .messageStart] = s.readyByte := rfl
  simp only [State.outByte, hrun]
  generalize s.readyByte = u
  refine Prod.ext ?_ ?_
  · unfold State.nextByte
    cases hs : u.sending with
    | none => rfl
    | some m =>
      obtain ⟨source, rest⟩ := m
      cases rest <;> rfl
  · rw [State.run_cons (t := State.finishMessage _) rfl, State.run_nil, State.byteSent]
    simp only [List.drop_one]

/-! ### The incoming stream (R161, R163) -/

/-- What the incoming message stream depends on. -/
def State.inView (s : State) : RxPos × List Entry := (s.rx, s.buffer)

theorem State.inView_fields {s t : State} (h : t.inView = s.inView) : t.rx = s.rx ∧ t.buffer = s.buffer := by
  simpa [State.inView] using h

theorem State.judgeHeader_congr {s t : State} (h : t.inView = s.inView) (k g l : Byte) (d : Bool) :
    (t.judgeHeader k g l d).inView = (s.judgeHeader k g l d).inView := by
  obtain ⟨h1, h2⟩ := State.inView_fields h
  have hfree : t.freeBytes = s.freeBytes := by simp [State.freeBytes, State.bytesHeld, h2]
  unfold State.judgeHeader State.addEntry State.inView
  simp only [hfree, h2]
  split
  · rfl
  split
  · rfl
  · split <;> rfl

theorem State.takeHeader_congr {s t : State} (h : t.inView = s.inView) : t.takeHeader.inView = s.takeHeader.inView := by
  obtain ⟨h1, h2⟩ := State.inView_fields h
  unfold State.takeHeader
  rw [h1]
  split <;> [exact State.judgeHeader_congr h _ _ _ _; exact h]

theorem State.takeByte_congr {s t : State} (h : t.inView = s.inView) (b : Byte) : (t.takeByte b).inView = (s.takeByte b).inView := by
  obtain ⟨h1, h2⟩ := State.inView_fields (State.takeHeader_congr h)
  unfold State.takeByte State.takeBodyByte
  simp only [h1]
  split
  · split <;> simp [State.inView, h1, h2]
  · simp [State.inView, h2]
  · split <;> simp [State.inView, h2]

/-- The last element changed is the last element replaced. -/
theorem modifyLast_eq {α : Type} (f : α → α) (l : List α) : modifyLast f l = l.dropLast ++ (l.getLast?.map f).toList := by
  induction l with
  | nil => rfl
  | cons a l ih =>
    cases l with
    | nil => rfl
    | cons b l => simpa [modifyLast] using ih

/-- R161, R163: one byte of the incoming stream is one incoming byte position. -/
theorem State.takeByte_eq_inByte (s : State) (b : Byte) : s.takeByte b = s.inByte b := by
  have hrun : s.run [.messageHeader] = s.takeHeader := rfl
  have hrx : ∀ left use, rxAfter (left - 1) use = if left ≤ 1 then RxPos.between else .body (left - 1) use := fun left use =>
    if_congr Nat.sub_eq_zero_iff_le rfl rfl
  unfold State.takeByte State.inByte
  rw [hrun]
  generalize s.takeHeader = u
  cases hu : u.rx with
  | between => simp only [hu]
  | header got d => simp only [hu]
  | body left use =>
    simp only [hu, State.takeBodyByte]
    cases use <;> simp [hrx, modifyLast_eq, joinLast, Entry.receive]

/-! ### The head frame (R13 to R15, R145 to R148) -/

/-- R17: a sample's bytes, most significant first. -/
theorem sampleBytes_eq (x : Sample) : sampleBytes x =
    [BitVec.ofNat 8 (x.toNat / 65536), BitVec.ofNat 8 (x.toNat / 256), BitVec.ofNat 8 x.toNat] := by
  unfold sampleBytes
  simp only [List.cons.injEq, and_true]
  refine ⟨?_, ?_, ?_⟩ <;> apply BitVec.eq_of_toNat_eq <;> simp [Nat.shiftRight_eq_div_pow]

/-- R17: the sample in three bytes. -/
theorem toNat_sampleAt (b : List Byte) (i : Nat) : (sampleAt b i).toNat =
    65536 * (b.getD i 0).toNat + 256 * (b.getD (i + 1) 0).toNat + (b.getD (i + 2) 0).toNat := by
  unfold sampleAt
  generalize b.getD i 0 = x
  generalize b.getD (i + 1) 0 = y
  generalize b.getD (i + 2) 0 = z
  have hx := x.isLt
  have hy := y.isLt
  have hz := z.isLt
  rw [BitVec.toNat_append, BitVec.toNat_append, ← Nat.shiftLeft_add_eq_or_of_lt hz,
    ← Nat.shiftLeft_add_eq_or_of_lt hy]
  simp only [Nat.shiftLeft_eq]
  omega

/-- R15: the nine gated samples in channel order, then the mix, the message bytes and the link state. -/
theorem headFrame_tabulate (f : Chan → Sample) (m : Sample) (m1 m2 : Byte) :
    headFrame (PerChan.tabulate f) m m1 m2 .locked =
      (allChans.flatMap fun c => sampleBytes (f c)) ++ sampleBytes m ++ [m1, m2, 1] := rfl

/-- Up to the head frame, a frame period leaves the link, the streams and the channels. -/
theorem State.gainsStepped_keeps (s : State) (r : Option (List Byte)) :
    (s.gainsStepped r).outView = s.outView ∧ (s.gainsStepped r).inView = s.inView ∧
      (s.gainsStepped r).channels = s.channels ∧ (s.gainsStepped r).lockCount = s.lockCount ∧
      (s.gainsStepped r).owed.unlock = s.owed.unlock := by
  rw [State.gainsStepped_eq]; exact ⟨rfl, rfl, rfl, rfl, rfl⟩

/-- R14, R15: while UNLOCKED the head frame is silent and idle and no message moves. -/
theorem State.sendHeadFrame_unlocked {s : State} (h : s.link = .unlocked) (x : PerChan Sample) :
    s.sendHeadFrame x = { s with headOut := List.replicate 33 0 } := by
  have : s.sendHeadFrame x = s.sendUnlocked := by simp [State.sendHeadFrame, h]
  exact this

/-- R15, R165: while LOCKED the head frame carries the audio and two outgoing byte positions. -/
theorem State.sendHeadFrame_locked {s : State} (h : s.link = .locked) (x : PerChan Sample) :
    (s.sendHeadFrame x).outView = s.outByte.2.outByte.2.outView ∧
      (s.sendHeadFrame x).headOut = headFrame (s.headAudio x).1 (s.headAudio x).2 s.outByte.1 s.outByte.2.outByte.1 .locked := by
  have : s.sendHeadFrame x = s.sendLocked x := by simp [State.sendHeadFrame, h]
  rw [this, State.outByte_eq, State.outByte_eq]
  exact ⟨rfl, rfl⟩

theorem State.outByte_congr {s t : State} (h : t.outView = s.outView) :
    t.outByte.1 = s.outByte.1 ∧ t.outByte.2.outView = s.outByte.2.outView := by
  rw [State.outByte_eq, State.outByte_eq]
  exact ⟨State.nextByte_congr (State.readyByte_congr h), State.byteSent_congr (State.readyByte_congr h)⟩

/-- R15, R165: the head frame that a frame period sends, and what it leaves of the outgoing stream. -/
theorem State.framePeriod_head (s : State) (r h : Option (List Byte)) :
    (s.framePeriod r h).outView = ((s.gainsStepped r).sendHeadFrame (uplink r)).outView ∧
      (s.framePeriod r h).headOut = ((s.gainsStepped r).sendHeadFrame (uplink r)).headOut ∧
      (s.framePeriod r h).gains = (s.gainsStepped r).gains := by
  obtain ⟨-, -, -, a1, a2, a3, a4, a5, a6, a7, a8⟩ := State.headIn_keeps ((s.gainsStepped r).sendHeadFrame (uplink r)) h
  obtain ⟨-, -, -, -, b1, -⟩ := (s.gainsStepped r).sendHeadFrame_keeps (uplink r)
  rw [State.framePeriod_def]
  exact ⟨by simp [State.outView, *], a3, a2.trans b1⟩

/-- R2: the program samples of a head frame, kept for the next trunk frame. -/
def State.withProgram (s : State) (p : Sample × Sample) : State := { s with program := p }

/-- R161: both message bytes of an in-step head frame, taken while LOCKED. -/
def State.takeMessageBytes (s : State) (b : List Byte) : State :=
  ((s.withProgram (programOf b)).takeByte (messageBytesOf b).1).takeByte (messageBytesOf b).2

theorem State.headIn_of_locked {s : State} (hl : s.link = .locked) (b : List Byte) :
    s.headIn (some b) = s.takeMessageBytes b := by
  have : s.headIn (some b) = s.takeHeadFrame b := rfl
  rw [this, State.takeHeadFrame]
  split
  · rfl
  · next h => cases hl.symm.trans h

theorem State.headIn_of_unlocked {s : State} (hl : s.link = .unlocked) (b : List Byte) :
    s.headIn (some b) = { s.withProgram (programOf b) with lockCount := min (s.lockCount + 1) Config.lockFrames } := by
  have : s.headIn (some b) = s.takeHeadFrame b := rfl
  rw [this, State.takeHeadFrame]
  split
  · next h => cases hl.symm.trans h
  · rfl

theorem State.headIn_of_missed (s : State) :
    s.headIn none = { s.withProgram (0, 0) with
      owed := { s.owed with unlock := s.owed.unlock || decide (s.link = .locked) },
      lockCount := if s.link = .locked then s.lockCount else 0 } := by
  have : s.headIn none = s.missHeadFrame := rfl
  rw [this, State.missHeadFrame]
  split <;> next h => simp [State.withProgram, h]

/-- Of a head frame's message bytes only the input buffer and the position in the stream take notice. -/
theorem State.takeMessageBytes_keeps (s : State) (b : List Byte) :
    (s.takeMessageBytes b).lockCount = s.lockCount ∧ (s.takeMessageBytes b).owed = s.owed ∧
      (s.takeMessageBytes b).program = programOf b ∧
      (s.takeMessageBytes b).inView = ((s.inByte (b.getD 6 0)).inByte (b.getD 7 0)).inView := by
  have e1 := (s.withProgram (programOf b)).sansInput_takeByte (messageBytesOf b).1
  have e2 := State.sansInput_takeByte ((s.withProgram (programOf b)).takeByte (messageBytesOf b).1) (messageBytesOf b).2
  have hv : (s.takeMessageBytes b).inView = ((s.inByte (b.getD 6 0)).inByte (b.getD 7 0)).inView := by
    rw [← State.takeByte_eq_inByte, ← State.takeByte_eq_inByte]
    have h1 := State.takeByte_congr (s := s) (t := s.withProgram (programOf b)) rfl (messageBytesOf b).1
    exact State.takeByte_congr h1 (messageBytesOf b).2
  have e : (s.takeMessageBytes b).sansInput = (s.withProgram (programOf b)).sansInput := e2.trans e1
  generalize s.takeMessageBytes b = v at e hv ⊢
  exact ⟨congrArg (·.lockCount) e, congrArg (·.owed) e, congrArg (·.program) e, hv⟩

/-- R2, R13, R161: what an incoming head frame, or its absence, does while LOCKED. -/
theorem State.headIn_locked {s : State} (hl : s.link = .locked) (h : Option (List Byte)) :
    (s.headIn h).lockCount = s.lockCount ∧ (s.headIn h).owed.unlock = (s.owed.unlock || h.isNone) ∧
      (∀ b, h = some b → (s.headIn h).inView = ((s.inByte (b.getD 6 0)).inByte (b.getD 7 0)).inView) ∧
      (h = none → (s.headIn h).inView = s.inView) := by
  cases h with
  | none => rw [State.headIn_of_missed]; simp [hl]; rfl
  | some b =>
    obtain ⟨e1, e2, -, e4⟩ := s.takeMessageBytes_keeps b
    rw [State.headIn_of_locked hl]
    exact ⟨e1, by simp [e2], fun _ hb => by cases hb; exact e4, by simp⟩

/-- R13: while UNLOCKED it counts, toward the lock or back to 0. -/
theorem State.headIn_unlocked {s : State} (hl : s.link = .unlocked) (h : Option (List Byte)) :
    (s.headIn h).lockCount = (if h.isSome then min (s.lockCount + 1) 48 else 0) ∧
      (s.headIn h).owed.unlock = s.owed.unlock ∧ (s.headIn h).inView = s.inView := by
  cases h with
  | none => rw [State.headIn_of_missed]; simp [hl]; rfl
  | some b => rw [State.headIn_of_unlocked hl]; exact ⟨rfl, rfl, rfl⟩

/-- R2: the program samples kept for the next trunk frame. -/
theorem State.headIn_program (s : State) (h : Option (List Byte)) :
    (s.headIn h).program = (h.map programOf).getD (0, 0) := by
  cases h with
  | none => rw [State.headIn_of_missed]; rfl
  | some b =>
    cases hl : s.link with
    | locked => rw [State.headIn_of_locked hl]; exact (s.takeMessageBytes_keeps b).2.2.1
    | unlocked => rw [State.headIn_of_unlocked hl]; rfl

/-- R145, R147: the audio of the head frame, from the channels and the gains after the frame step. -/
theorem State.headAudio_eq {s t : State} (hc : t.channels = s.channels) (x : PerChan Sample) :
    t.headAudio x =
      (PerChan.tabulate fun c => BitVec.ofInt 24 (if (s.chan c).state = .free then 0
          else ((x.get c).toInt * (t.gain c).current + 16384) / 32768),
        BitVec.ofInt 24 (max (-8388608) (min (allChans.map fun c => (if (s.chan c).state = .free then 0
          else ((x.get c).toInt * (t.gain c).current + 16384) / 32768)).sum 8388607))) := by
  have hgated : t.gated x = fun c => if (s.chan c).state = .free then 0
      else ((x.get c).toInt * (t.gain c).current + 16384) / 32768 := by
    funext c
    rw [State.gated, State.chan, hc]; rfl
  rw [State.headAudio, hgated]
  rfl

/-- Settles O8: the layouts of the samples, then the head frame sent (`sendHeadFrame`), then the one received (`headIn`). -/
theorem framePeriodServesHead : Obligations.FramePeriodServesHead := by
  refine ⟨sampleBytes_eq, toNat_sampleAt, fun b => rfl, fun c => PerChan.get_all _ c, fun s r h hr => ?_, fun s r h hr => ?_⟩
  · obtain ⟨hview, hout, hgains⟩ := s.framePeriod_head r h
    obtain ⟨k1, -, k3, -⟩ := s.gainsStepped_keeps r
    have hlink : (s.gainsStepped r).link = s.link := (State.outView_fields k1).1
    refine ⟨_, exec_framePeriod_of_ready hr r h, fun hl => ?_, fun hl => ?_⟩
    · rw [State.sendHeadFrame_unlocked (hlink.trans hl)] at hview hout
      exact ⟨hout, (State.outView_fields (s := s) (hview.trans k1)).2⟩
    · obtain ⟨l1, l2⟩ := State.sendHeadFrame_locked (hlink.trans hl) (uplink r)
      obtain ⟨m1, n1⟩ := State.outByte_congr k1
      obtain ⟨m2, n2⟩ := State.outByte_congr n1
      refine ⟨s.outByte.1, s.outByte.2.outByte.1, s.outByte.2, s.outByte.2.outByte.2, rfl, rfl, ?_, (State.outView_fields (hview.trans (l1.trans n2))).2⟩
      have hgain : ∀ c, (s.framePeriod r h).gain c = (s.gainsStepped r).gain c := fun c => by
        simp only [State.gain, hgains]
      simp only [hout, l2, m1, m2, State.headAudio_eq k3, headFrame_tabulate, hgain]
  · obtain ⟨k1, k2, -, k4, k5⟩ := s.gainsStepped_keeps r
    obtain ⟨-, -, -, b1, -, b2, b3, b4, b5⟩ := (s.gainsStepped r).sendHeadFrame_keeps (uplink r)
    have hlink : ((s.gainsStepped r).sendHeadFrame (uplink r)).link = s.link := b1.trans (State.outView_fields k1).1
    have hin : ((s.gainsStepped r).sendHeadFrame (uplink r)).inView = s.inView := by
      rw [State.inView, b3, b4]; exact k2
    have hunlock : ((s.gainsStepped r).sendHeadFrame (uplink r)).owed.unlock = false := by rw [b5, k5]; exact hr.1.2
    have hlock : ((s.gainsStepped r).sendHeadFrame (uplink r)).lockCount = s.lockCount := b2.trans k4
    refine ⟨_, exec_framePeriod_of_ready hr r h, ?_, fun hl => ?_, fun hl => ?_, ?_⟩
    · exact ((State.headIn_keeps _ h).2.2.2.1).trans hlink
    · obtain ⟨e1, e2, e3⟩ := State.headIn_unlocked (hlink.trans hl) h
      rw [hlock] at e1
      exact ⟨e1, e2.trans hunlock, State.inView_fields (e3.trans hin)⟩
    · obtain ⟨e1, e2, e3, e4⟩ := State.headIn_locked (hlink.trans hl) h
      rw [hunlock, Bool.false_or] at e2
      refine ⟨e1.trans hlock, e2, fun b hb => State.inView_fields ((e3 b hb).trans ?_),
        fun hn => State.inView_fields ((e4 hn).trans hin)⟩
      rw [← State.takeByte_eq_inByte, ← State.takeByte_eq_inByte, ← State.takeByte_eq_inByte, ← State.takeByte_eq_inByte]
      exact State.takeByte_congr (State.takeByte_congr hin _) _
    · rw [State.framePeriod_def, State.headIn_program]
      cases h <;> rfl

end Sys2Proof.Machine
end

section
/-! ## What an interval start leaves due (R5, R49, R115 to R118, R121) -/

namespace Sys2Proof.Machine

/-! ### Raised notices -/

/-- What raising notices reads and writes (R166). -/
def State.noticeView (s : State) : Settings × List Notice × Bool × Nat := (s.settings, s.notices, s.overrun, s.lostCount)

/-- A state without the notice queue, the overrun mark and the lost count. -/
def State.sansNotices (s : State) : State := { s with notices := [], overrun := false, lostCount := 0 }

theorem State.sansNotices_eq {s t : State} (h : t.sansNotices = s.sansNotices) :
    t = { s with notices := t.notices, overrun := t.overrun, lostCount := t.lostCount } := by
  cases s; cases t
  simp only [State.sansNotices, State.mk.injEq] at h ⊢
  simp [h]

@[simp] theorem State.sansNotices_raise (s : State) (x : Notice) : (s.raise x).sansNotices = s.sansNotices := by
  unfold State.raise
  split
  · split <;> rfl
  · rfl

@[simp] theorem State.sansNotices_raiseAll (s : State) (l : List Notice) : (s.raiseAll l).sansNotices = s.sansNotices := by
  induction l generalizing s with
  | nil => rfl
  | cons x l ih => simp [ih]

theorem State.raiseAll_append (s : State) (l m : List Notice) : s.raiseAll (l ++ m) = (s.raiseAll l).raiseAll m :=
  List.foldl_append

theorem State.noticeView_raise {s t : State} (h : t.noticeView = s.noticeView) (x : Notice) :
    (t.raise x).noticeView = (s.raise x).noticeView := by
  simp only [State.noticeView, Prod.mk.injEq] at h
  obtain ⟨h1, h2, h3, h4⟩ := h
  unfold State.raise State.noticeView
  simp only [h1, h2, h4]
  split
  · split <;> simp [h3]
  · simp [h1, h2, h3, h4]

/-- Raised in a state with the notices, the mark, the count and the settings of `s`, notices leave what they leave in `s`. -/
theorem State.hasRaised_of_view {s t : State} (h : t.noticeView = s.noticeView) (l : List Notice) : s.HasRaised (t.raiseAll l) l := by
  have hv : ∀ l (s t : State), t.noticeView = s.noticeView → (t.raiseAll l).noticeView = (s.raiseAll l).noticeView := by
    intro l
    induction l with
    | nil => exact fun _ _ h => h
    | cons x l ih => exact fun s t h => ih _ _ (State.noticeView_raise h x)
  have e := hv l s t h
  simp only [State.noticeView, Prod.mk.injEq] at e
  exact e.2

/-! ### One channel record -/

theorem PerChan.set_set {α : Type} (t : PerChan α) (c : Chan) (a b : α) : (t.set c a).set c b = t.set c b := by
  cases c <;> rfl

@[simp] theorem State.setChan_setChan (s : State) (c : Chan) (x y : Channel) : (s.setChan c x).setChan c y = s.setChan c y := by
  simp only [State.setChan, PerChan.set_set]

theorem State.raise_setChan (s : State) (c : Chan) (x : Channel) (n : Notice) : (s.setChan c x).raise n = (s.raise n).setChan c x := by
  unfold State.raise State.setChan
  split
  · split <;> rfl
  · rfl

theorem State.raise_stopTimer (s : State) (c : Chan) (n : Notice) : (s.stopTimer c).raise n = (s.raise n).stopTimer c := by
  unfold State.raise State.stopTimer State.setOwed
  split
  · split <;> rfl
  · rfl

theorem State.stopTimer_stopTimer (s : State) (c : Chan) : (s.stopTimer c).stopTimer c = s.stopTimer c := by
  simp [State.stopTimer, State.setOwed, List.filter_filter]

/-- R107: an End does not look at the timer of the grant it ends, nor whether its decrement is due. -/
theorem State.release_of_timed (s : State) (c : Chan) (n : Nat) (r : Reason) {y : Channel} (hy : y.held = (s.chan c).held) :
    ((s.stopTimer c).setChan c y).release c n r = s.release c n r := by
  have e : ∀ z : Channel, (((s.stopTimer c).setChan c y).setChan c z).stopTimer c = (s.setChan c z).stopTimer c := by
    intro z
    rw [State.setChan_setChan]
    exact State.stopTimer_stopTimer (s.setChan c z) c
  unfold State.release
  simp only [State.chan_setChan_same, hy, e]

/-! ### The decrement of a timer (R115 to R118, R121) -/

theorem State.suspended_iff {s : State} {ctx : Context} (h : s.active = some ctx) :
    s.suspended = true ↔ s.floor = .held ∧ ctx.suspendWhileHeld = true := by
  simp [State.suspended, h]

/-- R115: the floor is HELD under suspension, the timer rests at 0, or there is none. -/
theorem State.tick_of_resting {s : State} {ctx : Context} {c : Chan} (ha : s.active = some ctx)
    (h : (s.floor = .held ∧ ctx.suspendWhileHeld = true) ∨ (s.chan c).remaining = none ∨ (s.chan c).remaining = some 0) :
    s.tick c = s.stopTimer c := by
  unfold State.tick
  obtain hs | hn | h0 := h
  · rw [(State.suspended_iff ha).2 hs]
    split <;> rfl
  · rw [hn]
    split <;> simp_all
  · rw [h0]
    split <;> simp_all

theorem State.tick_of_running {s : State} {ctx : Context} {c : Chan} {n r : Nat} (ha : s.active = some ctx)
    (hs : ¬(s.floor = .held ∧ ctx.suspendWhileHeld = true)) (hn : (s.chan c).seat = some n) (hr : (s.chan c).remaining = some (r + 1)) :
    s.tick c = (s.stopTimer c).countDown ctx c n r := by
  have hs' : s.suspended = false := by
    rw [Bool.eq_false_iff]
    exact fun h => hs ((State.suspended_iff ha).1 h)
  unfold State.tick
  rw [ha, hn, hr]
  simp [hs']

/-- R116: the notice that a decrement to `r` brings a grant that is not yet warned. -/
def Context.warningNotices (x : Context) (c : Chan) (n r : Nat) (warned : Bool) : List Notice :=
  if warned = false ∧ x.atLead r = true then [.warning n c (r / Config.intervalsPerTenth)] else []

/-- R116: the record of the channel and the notices after a decrement to `r`, before the expiry. -/
theorem State.warnAfter_setChan (s : State) (x : Context) (c : Chan) (n r : Nat) :
    (s.setChan c { s.chan c with remaining := some r }).warnAfter x c n r =
      (s.setChan c { s.chan c with remaining := some r, warned := (s.chan c).warned || x.atLead r }).raiseAll
        (x.warningNotices c n r (s.chan c).warned) := by
  unfold State.warnAfter Context.warningNotices
  simp only [State.chan_setChan_same, State.setChan_setChan]
  cases hw : (s.chan c).warned <;> cases hl : x.atLead r <;> simp

theorem exec_due {s : State} {ctx : Context} {c : Chan} {cmd : Instr} (hc : c ∈ s.owed.timers) (ha : s.active = some ctx)
    (h : (ctx.expiry = .revoke ∧ cmd = .expired c) ∨ (ctx.expiry = .warnOnly ∧ cmd = .timeOver c)) :
    exec cmd s = .next (s.tick c) := by
  obtain ⟨he, rfl⟩ | ⟨he, rfl⟩ := h
  · show execExpired c s = _
    simp [execExpired, State.timerDue, hc, ha, he]
  · show execTimeOver c s = _
    simp [execTimeOver, State.timerDue, hc, ha, he]

/-- A decrement that is not due changes nothing. -/
theorem exec_not_due {s : State} {c : Chan} (h : c ∉ s.owed.timers) : exec (.expired c) s = .next s ∧ exec (.timeOver c) s = .next s := by
  refine ⟨?_, ?_⟩
  · show execExpired c s = _
    simp [execExpired, State.timerDue, h]
  · show execTimeOver c s = _
    simp [execTimeOver, State.timerDue, h]

/-- R117, R118: nor does the event of the other expiry. -/
theorem exec_other_expiry {s : State} {ctx : Context} (ha : s.active = some ctx) (c : Chan) :
    (ctx.expiry = .warnOnly → exec (.expired c) s = .next s) ∧ (ctx.expiry = .revoke → exec (.timeOver c) s = .next s) := by
  refine ⟨fun h => ?_, fun h => ?_⟩
  · show execExpired c s = _
    simp [execExpired, State.timerDue, ha, h]
  · show execTimeOver c s = _
    simp [execTimeOver, State.timerDue, ha, h]

/-- R116, R121: a decrement that leaves the timer above 0. -/
theorem State.tick_above {s : State} {ctx : Context} {c : Chan} {n r : Nat} (ha : s.active = some ctx)
    (hs : ¬(s.floor = .held ∧ ctx.suspendWhileHeld = true)) (hn : (s.chan c).seat = some n) (hr : (s.chan c).remaining = some (r + 2)) :
    s.tick c = ((s.stopTimer c).setChan c { s.chan c with remaining := some (r + 1), warned := (s.chan c).warned || ctx.atLead (r + 1) }).raiseAll
      (ctx.warningNotices c n (r + 1) (s.chan c).warned) := by
  rw [State.tick_of_running ha hs hn hr]
  exact State.warnAfter_setChan (s.stopTimer c) ctx c n (r + 1)

/-- R117: the decrement that brings the timer to 0 under REVOKE. -/
theorem State.tick_revoke {s : State} {ctx : Context} {c : Chan} {n : Nat} (ha : s.active = some ctx) (he : ctx.expiry = .revoke)
    (hs : ¬(s.floor = .held ∧ ctx.suspendWhileHeld = true)) (hn : (s.chan c).seat = some n) (hr : (s.chan c).remaining = some 1) :
    s.tick c = ((s.raiseAll (ctx.warningNotices c n 0 (s.chan c).warned)).release c n .expired).fill := by
  have hcomm : ∀ (l : List Notice) (s : State) (y : Channel),
      ((s.stopTimer c).setChan c y).raiseAll l = ((s.raiseAll l).stopTimer c).setChan c y := by
    intro l
    induction l with
    | nil => exact fun _ _ => rfl
    | cons x l ih => exact fun s y => by rw [State.raiseAll_cons, State.raise_setChan, State.raise_stopTimer, ih]; rfl
  rw [State.tick_of_running ha hs hn hr, State.countDown, if_pos rfl]
  rw [show ((s.stopTimer c).setChan c { (s.stopTimer c).chan c with remaining := some 0 }).warnAfter ctx c n 0 = _ from
    State.warnAfter_setChan (s.stopTimer c) ctx c n 0, State.expireAfter, he]
  show State.endOrdinary _ c n .expired = _
  rw [hcomm, State.endOrdinary, State.release_of_timed _ _ _ _ (by rw [State.raiseAll_chan]; rfl)]
  rfl

/-- R118: under WARN_ONLY the timer rests at 0, its grant LIVE and warned. -/
theorem State.tick_warnOnly {s : State} {ctx : Context} {c : Chan} {n : Nat} (ha : s.active = some ctx) (he : ctx.expiry = .warnOnly)
    (hs : ¬(s.floor = .held ∧ ctx.suspendWhileHeld = true)) (hn : (s.chan c).seat = some n) (hr : (s.chan c).remaining = some 1) :
    s.tick c = ((s.stopTimer c).setChan c { s.chan c with remaining := some 0, warned := true }).raiseAll
      (ctx.warningNotices c n 0 (s.chan c).warned ++ [.timeOver n c]) := by
  have hcomm : ∀ (l : List Notice) (s : State) (y z : Channel),
      ((s.setChan c y).raiseAll l).setChan c z = (s.setChan c z).raiseAll l := by
    intro l
    induction l with
    | nil => exact fun s y z => s.setChan_setChan c y z
    | cons x l ih => exact fun s y z => by rw [State.raiseAll_cons, State.raise_setChan, ih, State.raiseAll_cons, State.raise_setChan]
  rw [State.tick_of_running ha hs hn hr, State.countDown, if_pos rfl]
  rw [show ((s.stopTimer c).setChan c { (s.stopTimer c).chan c with remaining := some 0 }).warnAfter ctx c n 0 = _ from
    State.warnAfter_setChan (s.stopTimer c) ctx c n 0, State.expireAfter, he]
  show State.timeIsOver _ c n = _
  rw [State.timeIsOver, hcomm, State.raiseAll_chan, State.chan_setChan_same, State.raiseAll_append]
  rfl

/-- What a decrement that ends no grant leaves. -/
theorem State.decremented (s : State) (c : Chan) (y : Channel) (l : List Notice) :
    (((s.stopTimer c).setChan c y).raiseAll l).chan c = y ∧ s.OtherChannelsKept (((s.stopTimer c).setChan c y).raiseAll l) c ∧
      s.HasRaised (((s.stopTimer c).setChan c y).raiseAll l) l ∧
      ((s.stopTimer c).setChan c y).raiseAll l =
        { s with channels := (((s.stopTimer c).setChan c y).raiseAll l).channels,
                 notices := (((s.stopTimer c).setChan c y).raiseAll l).notices,
                 overrun := (((s.stopTimer c).setChan c y).raiseAll l).overrun,
                 lostCount := (((s.stopTimer c).setChan c y).raiseAll l).lostCount,
                 owed := { s.owed with timers := s.owed.timers.filter fun d => d != c } } := by
  refine ⟨?_, fun d hd => ?_, State.hasRaised_of_view (s := s) (t := (s.stopTimer c).setChan c y) rfl l, ?_⟩
  · rw [State.raiseAll_chan, State.chan_setChan_same]
  · rw [State.raiseAll_chan, State.chan_setChan_ne _ _ hd]; rfl
  · have e := ((s.stopTimer c).setChan c y).sansNotices_raiseAll l
    have hc : (((s.stopTimer c).setChan c y).raiseAll l).channels = ((s.stopTimer c).setChan c y).channels := congrArg (·.channels) e
    generalize ((s.stopTimer c).setChan c y).raiseAll l = t at e hc ⊢
    rw [hc]
    exact State.sansNotices_eq e

/-- Settles O15: the toggle and the lockout by their rules, the timers by the cases of the decrement (`tick`). -/
theorem timersRunOut : Obligations.TimersRunOut := by
  refine ⟨fun s h => ?_, fun s c => ⟨exec_not_due, fun ctx ha => exec_other_expiry ha c⟩, fun s ctx c n cmd hc ha hn hcmd => ⟨fun h => ?_, fun r warns hs hr hw => ?_⟩,
    fun s n hn h1 h2 hl => ⟨s.takeLockout n, rfl, ?_⟩, fun s ctx c n hc hp ha he hs hn hr => ?_, fun s ctx c n hc ha he hs hn hr => ?_⟩
  · show execBlinkPhaseToggle s = _
    simp [execBlinkPhaseToggle, State.takeBlink, h, State.setOwed]
  · rw [exec_due hc ha hcmd, State.tick_of_resting ha h]; rfl
  · refine ⟨s.tick c, exec_due hc ha hcmd, ?_⟩
    obtain ⟨e1, e2, e3, e4⟩ := s.decremented c
      { s.chan c with remaining := some (r + 1), warned := (s.chan c).warned || ctx.atLead (r + 1) }
      (ctx.warningNotices c n (r + 1) (s.chan c).warned)
    rw [← State.tick_above ha hs hn hr] at e1 e2 e3 e4
    have hlead : ctx.atLead (r + 1) = warns := hw.symm
    rw [hlead] at e1
    rw [Context.warningNotices, hlead] at e3
    exact ⟨e1, e2, e3, e4⟩
  · have he : s.takeLockout n = (s.updSeat n fun t => { t with lockout := t.lockout - 1 }).setOwed
        { s.owed with lockouts := s.owed.lockouts.filter fun m => m != n } := by
      simp [State.takeLockout, hn]
    refine ⟨?_, fun m hm => ?_, ?_⟩
    · rw [he, State.seat_setOwed, State.seat_updSeat_same _ _ h1 h2, hl]
    · rw [he, State.seat_setOwed, State.seat_updSeat_ne _ _ hm]
    · obtain ⟨k, rfl⟩ : ∃ k, n = k + 1 := ⟨n - 1, by omega⟩
      rw [he]; rfl
  · have hn0 : ctx.warningNotices c n 0 (s.chan c).warned =
        if (s.chan c).warned = false ∧ 0 < ctx.warningLead then [.warning n c 0] else [] := by
      simp [Context.warningNotices, Context.atLead]
    rw [exec_due hc ha (.inl ⟨he, rfl⟩), State.tick_revoke ha he hs hn hr, hn0]
    split <;> rfl
  · refine ⟨s.tick c, exec_due hc ha (.inr ⟨he, rfl⟩), ?_⟩
    obtain ⟨e1, e2, e3, e4⟩ := s.decremented c { s.chan c with remaining := some 0, warned := true }
      (ctx.warningNotices c n 0 (s.chan c).warned ++ [.timeOver n c])
    rw [← State.tick_warnOnly ha he hs hn hr] at e1 e2 e3 e4
    have hn0 : ctx.warningNotices c n 0 (s.chan c).warned =
        if (s.chan c).warned = false ∧ 0 < ctx.warningLead then [.warning n c 0] else [] := by
      simp [Context.warningNotices, Context.atLead]
    rw [hn0] at e3
    exact ⟨e1, e2, e3, e4⟩

end Sys2Proof.Machine
end

section
/-! ## What the floor's operations do not look at

An update that an operation neither reads nor writes can be made before it or after it. -/

namespace Sys2Proof.Machine

/-- A seat without its two commands, which no operation of the floor looks at. -/
def Seat.uncommanded (t : Seat) : Seat := { t with lastSent := Command.off, inFlight := Command.off }

/-- A change of a seat that neither reads nor writes its two commands. -/
def Seat.Blind (f : Seat → Seat) : Prop :=
  ∀ (t : Seat) (a b : Command), f { t with lastSent := a, inFlight := b } = { f t with lastSent := a, inFlight := b }

def State.withFloor (s : State) (f : Floor) : State := { s with floor := f }
def State.withWaiting (s : State) (l : List WaitEntry) : State := { s with waiting := l }
def State.withSpeakers (s : State) (l : List Speaker) : State := { s with speakers := l }

/-- The lockout of seat `n` is no longer due. -/
def State.dropLockout (s : State) (n : Nat) : State :=
  s.setOwed { s.owed with lockouts := s.owed.lockouts.filter fun m => m != n }

/-- An update `h` that shows the floor's operations what it found, and that comes to the same before and after each of the
elementary updates they are made of. -/
structure State.Unread (h : State → State) : Prop where
  agenda : ∀ s, (h s).agenda = s.agenda
  settings : ∀ s, (h s).settings = s.settings
  floor : ∀ s, (h s).floor = s.floor
  waiting : ∀ s, (h s).waiting = s.waiting
  speakers : ∀ s, (h s).speakers = s.speakers
  channels : ∀ s, (h s).channels = s.channels
  seat : ∀ s n, ((h s).seat n).uncommanded = (s.seat n).uncommanded
  setChan : ∀ s c x, h (s.setChan c x) = (h s).setChan c x
  updSeat : ∀ s n f, Seat.Blind f → h (s.updSeat n f) = (h s).updSeat n f
  raise : ∀ s x, h (s.raise x) = (h s).raise x
  withFloor : ∀ s f, h (s.withFloor f) = (h s).withFloor f
  withWaiting : ∀ s l, h (s.withWaiting l) = (h s).withWaiting l
  withSpeakers : ∀ s l, h (s.withSpeakers l) = (h s).withSpeakers l
  stopTimer : ∀ s c, h (s.stopTimer c) = (h s).stopTimer c
  dropLockout : ∀ s n, h (s.dropLockout n) = (h s).dropLockout n

theorem State.update_foldl {α : Type} {h : State → State} {f : State → α → State} (hf : ∀ s a, h (f s a) = f (h s) a) (l : List α)
    (s : State) : h (l.foldl f s) = l.foldl f (h s) := (List.foldl_hom h fun s a => (hf s a).symm).symm

namespace State.Unread

variable {h : State → State} (hu : State.Unread h)
include hu

/-! ### Readings -/

theorem chan (s : State) (c : Chan) : (h s).chan c = s.chan c := by rw [State.chan, hu.channels]; rfl

theorem active (s : State) : (h s).active = s.active := by rw [State.active, hu.agenda]; rfl

theorem config (s : State) (n : Nat) : ((h s).seat n).config = (s.seat n).config := (congrArg Seat.config (hu.seat s n) : _)

theorem place (s : State) (n : Nat) : ((h s).seat n).place = (s.seat n).place := (congrArg Seat.place (hu.seat s n) : _)

theorem bound (s : State) (n : Nat) : ((h s).seat n).bound = (s.seat n).bound := (congrArg Seat.bound (hu.seat s n) : _)

theorem present (s : State) (n : Nat) : ((h s).seat n).present = (s.seat n).present := (congrArg Seat.present (hu.seat s n) : _)

theorem flagged (s : State) (n : Nat) : ((h s).seat n).flagged = (s.seat n).flagged := (congrArg Seat.flagged (hu.seat s n) : _)

theorem pendingSense (s : State) (n : Nat) : ((h s).seat n).pendingSense = (s.seat n).pendingSense :=
  (congrArg Seat.pendingSense (hu.seat s n) : _)

theorem deriveSlot (s : State) (k : KeySlot) : (h s).deriveSlot k = s.deriveSlot k :=
  (congrArg (fun t : Seat => t.derive k.event) (hu.seat s k.seat) : _)

theorem isChair (s : State) (n : Nat) : (h s).isChair n = s.isChair n := by rw [State.isChair, State.classOf, hu.config]; rfl

theorem classOf (s : State) (n : Nat) : (h s).classOf n = s.classOf n := by rw [State.classOf, hu.config]; rfl

theorem eligible (s : State) (n : Nat) : (h s).eligible n = s.eligible n := by
  simp only [State.eligible, State.admitted, hu.config, hu.present, hu.flagged, hu.active, hu.classOf]

theorem entitledChair (s : State) (n : Nat) : (h s).entitledChair n = s.entitledChair n := by
  simp only [State.entitledChair, hu.config, hu.present, hu.flagged, hu.isChair]

theorem room (s : State) : (h s).room = s.room := by
  have hb : (h s).belowMaxLive = s.belowMaxLive := by simp only [State.belowMaxLive, hu.active, hu.speakers]
  have hf : (h s).freeOrdinary = s.freeOrdinary := by simp only [State.freeOrdinary, hu.chan]
  rw [State.room, hb, hf]; rfl

theorem fills (s : State) : (h s).fills = s.fills := by simp only [State.fills, hu.active, hu.floor]

theorem suspended (s : State) : (h s).suspended = s.suspended := by simp only [State.suspended, hu.active, hu.floor]

theorem grantTime (s : State) (c : Chan) (n : Nat) : (h s).grantTime c n = s.grantTime c n := by
  simp only [State.grantTime, hu.active, hu.classOf]

theorem grantWarned (s : State) (c : Chan) (n : Nat) : (h s).grantWarned c n = s.grantWarned c n := by
  simp only [State.grantWarned, hu.active, hu.grantTime]

theorem joinIndex (s : State) (c : Context) (n : Nat) : (h s).joinIndex c n = s.joinIndex c n := by
  simp only [State.joinIndex, hu.waiting, hu.isChair]

/-! ### The waiting list -/

theorem setPlace (s : State) (n : Nat) (p : Place) (b : Option Chan) : h (s.setPlace n p b) = (h s).setPlace n p b :=
  hu.updSeat s n _ fun _ _ _ => rfl

theorem removeWaiting (s : State) (n : Nat) (r : Reason) : h (s.removeWaiting n r) = (h s).removeWaiting n r := by
  have e : ∀ s : State, s.removeWaiting n r =
      ((s.withWaiting (s.waiting.filter fun e => e.seat != n)).setPlace n .idle none).raise (.dequeued n r) := fun _ => rfl
  rw [e, e, hu.raise, hu.setPlace, hu.withWaiting, hu.waiting]

theorem clearWaiting (s : State) (r : Reason) : h (s.clearWaiting r) = (h s).clearWaiting r := by
  rw [State.clearWaiting, State.clearWaiting, hu.waiting]
  exact State.update_foldl (α := WaitEntry) (f := fun s e => s.removeWaiting e.seat r) (fun s e => hu.removeWaiting s e.seat r) _ s

theorem insertWaiting (s : State) (n k i : Nat) : h (s.insertWaiting n k i) = (h s).insertWaiting n k i := by
  have e : ∀ s : State, s.insertWaiting n k i =
      ((s.withWaiting (s.waiting.insertIdx i { seat := n, sweep := k })).setPlace n .waiting none).raise (.queued n (i + 1)) :=
    fun _ => rfl
  rw [e, e, hu.raise, hu.setPlace, hu.withWaiting, hu.waiting]

theorem joinList (s : State) (c : Context) (n k : Nat) : h (s.joinList c n k) = (h s).joinList c n k := by
  unfold State.joinList
  rw [hu.waiting, hu.joinIndex]
  split
  · exact hu.raise s _
  · split
    · exact hu.insertWaiting s n k _
    · exact hu.raise s _

/-! ### Grant, End and fill -/

theorem appendSpeaker (s : State) (c : Chan) (n : Nat) : h (s.appendSpeaker c n) = (h s).appendSpeaker c n := by
  have e : ∀ s : State, s.appendSpeaker c n =
      if c.isOrdinary then s.withSpeakers (s.speakers ++ [{ chan := c, seat := n }]) else s := fun _ => rfl
  rw [e, e, hu.speakers, ← hu.withSpeakers]
  split <;> rfl

theorem removeSpeaker (s : State) (c : Chan) : h (s.removeSpeaker c) = (h s).removeSpeaker c := by
  have e : ∀ s : State, s.removeSpeaker c =
      if c.isOrdinary then s.withSpeakers (s.speakers.filter fun e => e.chan != c) else s := fun _ => rfl
  rw [e, e, hu.speakers, ← hu.withSpeakers]
  split <;> rfl

theorem raiseAll (s : State) (l : List Notice) : h (s.raiseAll l) = (h s).raiseAll l := State.update_foldl hu.raise l s

theorem grant (s : State) (c : Chan) (n : Nat) (l : Bool) : h (s.grant c n l) = (h s).grant c n l := by
  rw [State.grant_eq, State.grant_eq, hu.raiseAll, hu.appendSpeaker, hu.setPlace, hu.setChan, hu.grantTime, hu.grantWarned]

theorem loadLockout (s : State) (n : Nat) : h (s.loadLockout n) = (h s).loadLockout n := by
  have e : ∀ s : State, s.loadLockout n = (s.dropLockout n).updSeat n fun t => { t with lockout := s.settings.lockout } := by
    intro s; cases n <;> rfl
  rw [e, e, hu.updSeat _ _ _ fun _ _ _ => rfl, hu.dropLockout, hu.settings]

theorem release (s : State) (c : Chan) (n : Nat) (r : Reason) : h (s.release c n r) = (h s).release c n r := by
  unfold State.release
  simp only [hu.raise, hu.chan]
  split
  · rw [hu.removeSpeaker, hu.setPlace, hu.stopTimer, hu.setChan]
  · rw [hu.loadLockout, hu.removeSpeaker, hu.setPlace, hu.stopTimer, hu.setChan]

theorem releaseSpeakers (s : State) (r : Reason) : h (s.releaseSpeakers r) = (h s).releaseSpeakers r := by
  rw [State.releaseSpeakers, State.releaseSpeakers, hu.speakers]
  exact State.update_foldl (α := Speaker) (f := fun s e => s.release e.chan e.seat r) (fun s e => hu.release s e.chan e.seat r) _ s

theorem grantHeads (k : Nat) (s : State) : h (State.grantHeads k s) = State.grantHeads k (h s) := by
  induction k generalizing s with
  | zero => rfl
  | succ k ih =>
    unfold State.grantHeads
    rw [hu.waiting, hu.room]
    split
    · next e rest c _ _ =>
      rw [ih, hu.grant]
      exact congrArg (fun t : State => State.grantHeads k (t.grant c e.seat true)) (hu.withWaiting s rest)
    · rfl

theorem fill (s : State) : h s.fill = (h s).fill := by
  unfold State.fill
  rw [hu.fills, hu.waiting, ← hu.grantHeads]
  split <;> rfl

theorem endOrdinary (s : State) (c : Chan) (n : Nat) (r : Reason) : h (s.endOrdinary c n r) = (h s).endOrdinary c n r := by
  rw [State.endOrdinary, hu.fill, hu.release]; rfl

theorem endSpeakers (s : State) (r : Reason) : h (s.endSpeakers r) = (h s).endSpeakers r := by
  rw [State.endSpeakers, State.endSpeakers, hu.speakers]
  exact State.update_foldl (α := Speaker) (f := fun s e => s.endOrdinary e.chan e.seat r) (fun s e => hu.endOrdinary s e.chan e.seat r) _ s

theorem endIntervention (s : State) (n : Nat) : h (s.endIntervention n) = (h s).endIntervention n := by
  have e : ∀ s : State, s.endIntervention n = (match s.active with
      | none => s.withFloor .opened
      | some c => (((s.withFloor .opened).raise (.resumed n c.priorityEnd)).applyPriorityEnd c.priorityEnd).fill) := fun _ => rfl
  rw [e, e, hu.active]
  cases s.active with
  | none => exact hu.withFloor s _
  | some c =>
    simp only [hu.fill]
    cases c.priorityEnd with
    | resume => simp only [State.applyPriorityEnd, hu.raise, hu.withFloor]
    | clear => simp only [State.applyPriorityEnd, hu.endSpeakers, hu.raise, hu.withFloor]

theorem endPriority (s : State) (n : Nat) (r : Reason) : h (s.endPriority n r) = (h s).endPriority n r := by
  rw [State.endPriority, hu.endIntervention, hu.release]; rfl

theorem endSeat (s : State) (n : Nat) (r : Reason) : h (s.endSeat n r) = (h s).endSeat n r := by
  unfold State.endSeat
  rw [hu.bound]
  split
  · rfl
  · exact hu.endPriority s n r
  · exact hu.endOrdinary s _ n r

/-! ### The arbiter's answers -/

theorem insertHead (s : State) (c : Context) (n k : Nat) : h (s.insertHead c n k) = (h s).insertHead c n k := by
  unfold State.insertHead
  simp only [hu.insertWaiting, hu.waiting]
  split
  · rfl
  · split
    · rfl
    · rw [hu.removeWaiting]

theorem displace (s : State) (c : Context) (n k : Nat) : h (s.displace c n k) = (h s).displace c n k := by
  have serve : ∀ s : State, h (s.serveDisplacer c n k) = (h s).serveDisplacer c n k := by
    intro s
    unfold State.serveDisplacer
    rw [hu.room]
    split
    · rw [hu.fill, hu.grant]
    · rw [hu.fill, hu.insertHead]
  unfold State.displace State.othersReleasing
  simp only [hu.speakers, hu.isChair, hu.chan]
  split
  · exact hu.joinList s c n k
  · split
    · exact hu.raise s _
    · rw [serve, hu.release]

theorem requestOpen (s : State) (c : Context) (n k : Nat) : h (s.requestOpen c n k) = (h s).requestOpen c n k := by
  unfold State.requestOpen
  rw [hu.room, hu.waiting]
  split
  · exact hu.grant s _ n false
  · exact hu.raise s _
  · split
    · exact hu.grant s _ n false
    · exact hu.joinList s c n k
  · exact hu.joinList s c n k
  · exact hu.joinList s c n k
  · exact hu.grant s _ n false
  · exact hu.displace s c n k

theorem judgeRequest (s : State) (n k : Nat) : h (s.judgeRequest n k) = (h s).judgeRequest n k := by
  unfold State.judgeRequest State.requestHeld
  rw [hu.floor, hu.flagged, hu.eligible, hu.active]
  split
  · exact hu.raise s _
  split
  · exact hu.raise s _
  split
  swap
  · exact hu.raise s _
  split
  · rfl
  split
  · split
    · exact hu.raise s _
    · exact hu.joinList s _ n k
  · exact hu.requestOpen s _ n k

theorem judgeWithdraw (s : State) (n : Nat) : h (s.judgeWithdraw n) = (h s).judgeWithdraw n := by
  unfold State.judgeWithdraw
  rw [hu.place]
  split
  · rfl
  · exact hu.removeWaiting s n _
  · exact hu.endSeat s n _

theorem takeNext (s : State) : h s.takeNext = (h s).takeNext := by
  unfold State.takeNext
  rw [hu.active]
  split
  · rfl
  · split
    · exact hu.grantHeads _ s
    · exact hu.fill s
    · exact hu.fill s
    · rfl

theorem cancelFloor (s : State) : h s.cancelFloor = (h s).cancelFloor := by
  rw [State.cancelFloor, hu.endSpeakers, hu.clearWaiting]; rfl

theorem startPriority (s : State) (n : Nat) : h (s.startPriority n) = (h s).startPriority n := by
  have escalate : ∀ s : State, h (s.escalate n) = (h s).escalate n := by
    intro s
    unfold State.escalate
    rw [hu.place]
    split
    · rfl
    · exact hu.removeWaiting s n _
    · exact hu.endSeat s n _
  have e : ∀ s : State, s.startPriority n = (((s.escalate n).grant .p n false).withFloor .held).raise (.heldBy n) := fun _ => rfl
  rw [e, e, hu.raise, hu.withFloor, hu.grant, escalate]

theorem answer (s : State) (a : KeyAct) (n k : Nat) : h (s.answer a n k) = (h s).answer a n k := by
  cases a with
  | request => exact hu.judgeRequest s n k
  | withdraw => exact hu.judgeWithdraw s n
  | next =>
    show h s.judgeNext = (h s).judgeNext
    rw [State.judgeNext, State.judgeNext, hu.floor, ← hu.takeNext]
    split <;> rfl
  | cancel =>
    show h s.judgeCancel = (h s).judgeCancel
    rw [State.judgeCancel, State.judgeCancel, hu.floor, ← hu.cancelFloor]
    split <;> rfl
  | priorityHeld =>
    show h (s.judgePriorityHeld n) = (h s).judgePriorityHeld n
    rw [State.judgePriorityHeld, State.judgePriorityHeld, hu.floor, hu.chan, hu.entitledChair, ← hu.startPriority]
    split <;> rfl
  | priorityReleased =>
    show h (s.judgePriorityReleased n) = (h s).judgePriorityReleased n
    rw [State.judgePriorityReleased, State.judgePriorityReleased, State.isHolder, State.isHolder, hu.chan, ← hu.endPriority]
    split <;> rfl

/-! ### Seats taken off the floor -/

theorem takeOff (s : State) (l : List Nat) (r : Reason) : h (s.takeOff l r) = (h s).takeOff l r := by
  unfold State.takeOff
  simp only [hu.place]
  rw [State.update_foldl (h := h) (f := fun s n => s.endSeat n r) (fun s n => hu.endSeat s n r),
    State.update_foldl (h := h) (f := fun s n => s.removeWaiting n r) (fun s n => hu.removeWaiting s n r)]

theorem breakFloor (s : State) : h s.breakFloor = (h s).breakFloor := by
  have endHolder : ∀ s : State, h (s.endHolder .trunkDown) = (h s).endHolder .trunkDown := by
    intro s
    unfold State.endHolder
    rw [hu.chan]
    split
    · exact hu.endPriority s _ _
    · rfl
  rw [State.breakFloor, endHolder, hu.endSpeakers, hu.clearWaiting]; rfl

theorem removeReported (s : State) (n : Nat) : h (s.removeReported n) = (h s).removeReported n := by
  unfold State.removeReported
  rw [hu.place]
  split
  · rfl
  · exact hu.removeWaiting s n _
  · exact hu.endSeat s n _

/-! ### Timers -/

theorem countDown (s : State) (x : Context) (c : Chan) (n r : Nat) : h (s.countDown x c n r) = (h s).countDown x c n r := by
  have warnAfter : ∀ s : State, h (s.warnAfter x c n r) = (h s).warnAfter x c n r := by
    intro s
    unfold State.warnAfter
    rw [hu.chan]
    split
    · rw [hu.raise, hu.setChan]
    · rfl
  have expireAfter : ∀ s : State, h (s.expireAfter x c n) = (h s).expireAfter x c n := by
    intro s
    unfold State.expireAfter State.timeIsOver
    split
    · exact hu.endOrdinary s c n _
    · rw [hu.raise, hu.setChan, hu.chan]
  unfold State.countDown
  simp only
  split
  · rw [expireAfter, warnAfter, hu.setChan, hu.chan]
  · rw [warnAfter, hu.setChan, hu.chan]

theorem tick (s : State) (c : Chan) : h (s.tick c) = (h s).tick c := by
  unfold State.tick
  simp only
  rw [hu.active, hu.chan, hu.suspended, ← hu.stopTimer]
  split
  · split
    · rfl
    · exact hu.countDown _ _ c _ _
  · rfl

end State.Unread

end Sys2Proof.Machine
end

section
/-! ## What the steps of a sweep do not look at -/

namespace Sys2Proof.Machine

/-- `s` with its owed steps changed by `m`. -/
def State.mapOwed (m : Owed → Owed) (s : State) : State := s.setOwed (m s.owed)

/-- A change of the owed steps that leaves those of an earlier sweep, and that comes to the same before and after each of them is
taken or falls away. -/
structure Owed.Apart (m : Owed → Owed) : Prop where
  lostSweep : ∀ o, (m o).lostSweep = o.lostSweep
  actions : ∀ o, (m o).actions = o.actions
  losses : ∀ o, (m o).losses = o.losses
  audit : ∀ o, (m o).audit = o.audit
  withLostSweep : ∀ o x, m { o with lostSweep := x } = { m o with lostSweep := x }
  withActions : ∀ o x, m { o with actions := x } = { m o with actions := x }
  withLosses : ∀ o x, m { o with losses := x } = { m o with losses := x }
  withAudit : ∀ o x, m { o with audit := x } = { m o with audit := x }
  lockouts : ∀ o n, m { o with lockouts := o.lockouts.filter fun k => k != n } =
    { m o with lockouts := (m o).lockouts.filter fun k => k != n }
  timers : ∀ o c, m { o with timers := o.timers.filter fun d => d != c } =
    { m o with timers := (m o).timers.filter fun d => d != c }

/-- The record of a sweep that has come back, put out of sight. -/
def Owed.sansReturned (o : Owed) : Owed := { o with returned := none }

theorem Owed.apart_sansReturned : Owed.Apart Owed.sansReturned := by constructor <;> intros <;> rfl

theorem Owed.apart_sansExpiries : Owed.Apart Owed.sansExpiries := by constructor <;> intros <;> rfl

theorem State.mapOwed_raise (m : Owed → Owed) (s : State) (x : Notice) : (s.raise x).mapOwed m = (s.mapOwed m).raise x := by
  unfold State.raise
  split
  · next he =>
    rw [if_pos (show (s.mapOwed m).settings.enables x = true from he)]
    split
    · next hl => rw [if_pos (show (s.mapOwed m).notices.length < Config.noticeMax from hl)]; rfl
    · next hl => rw [if_neg (show ¬(s.mapOwed m).notices.length < Config.noticeMax from hl)]; rfl
  · next he => rw [if_neg (show ¬(s.mapOwed m).settings.enables x = true from he)]

theorem State.mapOwed_updSeat (m : Owed → Owed) (s : State) (n : Nat) (f : Seat → Seat) :
    (s.updSeat n f).mapOwed m = (s.mapOwed m).updSeat n f := by cases n <;> rfl

namespace Owed.Apart

variable {m : Owed → Owed} (hm : Owed.Apart m)
include hm

/-- The floor's operations look at no owed step but those they take away. -/
theorem unread : State.Unread (State.mapOwed m) where
  agenda _ := rfl
  settings _ := rfl
  floor _ := rfl
  waiting _ := rfl
  speakers _ := rfl
  channels _ := rfl
  seat _ _ := rfl
  setChan _ _ _ := rfl
  updSeat s n f _ := State.mapOwed_updSeat m s n f
  raise := State.mapOwed_raise m
  withFloor _ _ := rfl
  withWaiting _ _ := rfl
  withSpeakers _ _ := rfl
  stopTimer s c := congrArg s.setOwed (hm.timers s.owed c)
  dropLockout s n := congrArg s.setOwed (hm.lockouts s.owed n)

theorem declareLost (s : State) (k : Nat) : (s.declareLost k).mapOwed m = (s.mapOwed m).declareLost k := by
  have breakTrunk : ∀ s : State, (s.breakTrunk k).mapOwed m = (s.mapOwed m).breakTrunk k := by
    intro s
    rw [State.breakTrunk, hm.unread.breakFloor]
    exact congrArg (fun t : State => t.loseAllSeats.breakFloor) (State.mapOwed_raise m { s with trunk := .down } _)
  unfold State.declareLost
  rw [show (s.mapOwed m).lossBreaks = s.lossBreaks from rfl]
  cases s.lossBreaks with
  | false => rfl
  | true => exact breakTrunk _

theorem declareOwedLoss (s : State) : s.declareOwedLoss.mapOwed m = (s.mapOwed m).declareOwedLoss := by
  unfold State.declareOwedLoss
  rw [show (s.mapOwed m).owed.lostSweep = s.owed.lostSweep from hm.lostSweep _]
  cases s.owed.lostSweep with
  | none => rfl
  | some k =>
    simp only
    rw [hm.declareLost]
    exact congrArg (fun o => (s.setOwed o).declareLost k) (hm.withLostSweep s.owed none)

theorem keepSlots (s : State) (k : Nat) (l : List KeySlot) : (s.keepSlots k l).mapOwed m = (s.mapOwed m).keepSlots k l :=
  congrArg s.setOwed (hm.withActions s.owed _)

theorem takeNextSlot (s : State) (k : Nat) (slot : KeySlot) (rest : List KeySlot) :
    (s.takeNextSlot k slot rest).mapOwed m = (s.mapOwed m).takeNextSlot k slot rest := by
  unfold State.takeNextSlot
  rw [hm.unread.deriveSlot, ← hm.keepSlots]
  split
  · unfold State.spend
    split
    · exact State.mapOwed_updSeat m _ _ _
    · rfl
  · exact hm.unread.answer _ _ _ _

theorem endPresentation (s : State) : s.endPresentation.mapOwed m = (s.mapOwed m).endPresentation :=
  congrArg (fun o => ({ s.setOwed o with rotation := nextSeat s.rotation } : State)) (hm.withActions s.owed none)

theorem closePresentation (s : State) : s.closePresentation.mapOwed m = (s.mapOwed m).closePresentation := by
  unfold State.closePresentation
  rw [show (s.mapOwed m).owed.actions = s.owed.actions from hm.actions _, ← hm.endPresentation]
  split <;> rfl

theorem presentSlots (k : Nat) (l : List KeySlot) (s : State) :
    (State.presentSlots k l s).mapOwed m = State.presentSlots k l (s.mapOwed m) := by
  induction l generalizing s with
  | nil => rfl
  | cons x l ih => rw [State.presentSlots_cons, State.presentSlots_cons, ih, hm.takeNextSlot]

theorem presentAll (s : State) : s.presentAll.mapOwed m = (s.mapOwed m).presentAll := by
  unfold State.presentAll
  rw [show (s.mapOwed m).owed.actions = s.owed.actions from hm.actions _]
  split
  · rfl
  · rw [hm.endPresentation, hm.presentSlots]

theorem takeLosses (s : State) : s.takeLosses.mapOwed m = (s.mapOwed m).takeLosses := by
  unfold State.takeLosses State.loseSeats
  simp only
  rw [hm.unread.takeOff, show (s.mapOwed m).owed.losses = s.owed.losses from hm.losses _]
  rw [State.update_foldl (h := State.mapOwed m) (f := fun (s : State) n => (s.updSeat n Seat.lose).raise (.seatLost n))
    fun s n => by rw [State.mapOwed_raise, State.mapOwed_updSeat]]
  exact congrArg (fun o => State.takeOff ((s.owed.losses.filter fun n => (s.seat n).present).foldl
    (fun (s : State) n => (s.updSeat n Seat.lose).raise (.seatLost n)) (s.setOwed o)) _ .seatLost) (hm.withLosses s.owed [])

theorem reportOne (s : State) : s.reportOne.mapOwed m = (s.mapOwed m).reportOne := by
  unfold State.reportOne
  rw [show (s.mapOwed m).findPending = s.findPending from rfl]
  split
  · rfl
  · next n _ =>
    rw [show (s.mapOwed m).seat n = s.seat n from rfl]
    split
    · rfl
    · next sense _ =>
      rw [State.reportSeat, hm.unread.removeReported]
      have e : ((s.raise (.discrepancy n sense)).updSeat n Seat.reported).mapOwed m =
          ((s.mapOwed m).raise (.discrepancy n sense)).updSeat n Seat.reported := by
        rw [State.mapOwed_updSeat, State.mapOwed_raise]
      exact congrArg (fun t : State => { t with cursor := n }.removeReported n) e

theorem takeAudit (s : State) : s.takeAudit.mapOwed m = (s.mapOwed m).takeAudit := by
  unfold State.takeAudit State.compareAll
  rw [show (s.mapOwed m).owed.audit = s.owed.audit from hm.audit _]
  split
  · rfl
  · next entries _ =>
    rw [hm.reportOne, State.update_foldl (h := State.mapOwed m) (f := fun (s : State) e => s.compareEntry e) fun s e => ?_]
    · exact congrArg (fun o => (entries.foldl (fun (s : State) e => s.compareEntry e) (s.setOwed o)).reportOne)
        (hm.withAudit s.owed none)
    · unfold State.compareEntry
      rw [show (s.mapOwed m).seat e.seat = s.seat e.seat from rfl]
      split
      · exact State.mapOwed_updSeat m s _ _
      · rfl

theorem settleSweep (s : State) : s.settleSweep.mapOwed m = (s.mapOwed m).settleSweep := by
  rw [State.settleSweep, hm.takeAudit, hm.takeLosses, hm.presentAll, hm.declareOwedLoss]; rfl

end Owed.Apart

theorem State.mapOwed_sansExpiries {s : State} (h1 : s.owed.lockouts = []) (h2 : s.owed.timers = []) :
    s.mapOwed Owed.sansExpiries = s := by
  have ho : s.owed.sansExpiries = s.owed := by rw [Owed.sansExpiries, ← h1, ← h2]
  rw [State.mapOwed, ho]; rfl

theorem State.noExpiries_of_mapOwed {s : State} (h : s.mapOwed Owed.sansExpiries = s) : s.owed.lockouts = [] ∧ s.owed.timers = [] := by
  rw [← h]; exact ⟨rfl, rfl⟩

/-- With no expiry due, the steps of an earlier sweep make none due. -/
theorem State.noExpiries_settleSweep {s : State} (h1 : s.owed.lockouts = []) (h2 : s.owed.timers = []) :
    s.settleSweep.owed.lockouts = [] ∧ s.settleSweep.owed.timers = [] :=
  State.noExpiries_of_mapOwed (by rw [Owed.apart_sansExpiries.settleSweep, State.mapOwed_sansExpiries h1 h2])

/-- R10: nor does a loss. -/
theorem State.noExpiries_declareOwedLoss {s : State} (h1 : s.owed.lockouts = []) (h2 : s.owed.timers = []) :
    s.declareOwedLoss.owed.lockouts = [] ∧ s.declareOwedLoss.owed.timers = [] :=
  State.noExpiries_of_mapOwed (by rw [Owed.apart_sansExpiries.declareOwedLoss, State.mapOwed_sansExpiries h1 h2])

end Sys2Proof.Machine
end

section
/-! ## The interval start (R4 to R7, R49, R115) -/

namespace Sys2Proof.Machine

theorem exec_sweepIntervalStart (o : IntervalOrder) (s : State) : exec (.sweepIntervalStart o) s = .next (s.startInterval o) := rfl

theorem State.startInterval_due {s : State} (h : s.frame = 96) (o : IntervalOrder) :
    s.startInterval o = s.settleInterval.beginInterval o := if_pos h

/-- R4: an interval start looks only at what stands once the last interval's steps are taken. -/
theorem exec_sweepIntervalStart_congr {s t : State} (hs : s.frame = 96) (ht : t.frame = 96) (h : t.settleInterval = s.settleInterval)
    (o : IntervalOrder) : exec (.sweepIntervalStart o) s = exec (.sweepIntervalStart o) t := by
  rw [exec_sweepIntervalStart, exec_sweepIntervalStart, State.startInterval_due hs, State.startInterval_due ht, h]

/-! ### Steps that each leave one thing less due -/

theorem State.foldl_drains {α : Type} {f : State → α → State} {due : State → List α}
    (h : ∀ (s : State) (a x : α), x ∈ due (f s a) → x ∈ due s ∧ x ≠ a) (s : State) : due ((due s).foldl f s) = [] := by
  have key : ∀ (l : List α) (s : State) (x : α), x ∈ due (l.foldl f s) → x ∈ due s ∧ x ∉ l := by
    intro l
    induction l with
    | nil => exact fun s x hx => ⟨hx, List.not_mem_nil⟩
    | cons a l ih =>
      intro s x hx
      obtain ⟨h1, h2⟩ := ih (f s a) x hx
      obtain ⟨h3, h4⟩ := h s a x h1
      exact ⟨h3, by simp [h4, h2]⟩
  exact List.eq_nil_iff_forall_not_mem.2 fun x hx => (key _ s x hx).2 (key _ s x hx).1

theorem State.lockouts_takeLockouts (s : State) : s.takeLockouts.owed.lockouts = [] := by
  refine State.foldl_drains (due := fun s => s.owed.lockouts) (fun s n x hx => ?_) s
  unfold State.takeLockout at hx
  split at hx
  · simpa [State.setOwed] using hx
  · next hn => exact ⟨hx, fun e => hn (by simpa [e] using hx)⟩

theorem State.timers_tick (s : State) (c x : Chan) (hx : x ∈ (s.tick c).owed.timers) : x ∈ s.owed.timers ∧ x ≠ c := by
  have hsub : (s.tick c).owed.timers ⊆ (s.stopTimer c).owed.timers := by
    unfold State.tick
    simp only
    split
    · next h =>
      split
      · exact fun _ h => h
      · exact (State.moves_countDown (s.stopTimer c) _ c _ h).owed_subset.2
    · exact fun _ h => h
  simpa [State.stopTimer, State.setOwed] using hsub hx

theorem State.timers_takeTimers (s : State) : s.takeTimers.owed.timers = [] := by
  refine State.foldl_drains (due := fun s => s.owed.timers) (fun s c x hx => ?_) s
  unfold State.takeTimer at hx
  split at hx
  · exact State.timers_tick s c x hx
  · next hn => exact ⟨hx, fun e => hn (by simpa [e] using hx)⟩

/-! ### The last interval's steps, by command or by the interval start -/

theorem State.takeBlink_of_settled {s : State} (h : s.owed.blink = false) : s.takeBlink = s := by simp [State.takeBlink, h]

theorem State.takeLockouts_of_nil {s : State} (h : s.owed.lockouts = []) : s.takeLockouts = s := by simp [State.takeLockouts, h]

theorem State.takeTimers_of_nil {s : State} (h : s.owed.timers = []) : s.takeTimers = s := by simp [State.takeTimers, h]

theorem State.takeReturn_of_none {s : State} (h : s.owed.returned = none) : s.takeReturn = s := by simp [State.takeReturn, h]

/-- R5, R49: the toggle and the lockouts, by command. -/
theorem State.run_blink_lockouts (s : State) :
    s.run (.blinkPhaseToggle :: s.owed.lockouts.map Instr.lockoutExpiry) = s.takeBlink.takeLockouts := by
  have hl : s.takeBlink.owed.lockouts = s.owed.lockouts := by unfold State.takeBlink; split <;> rfl
  rw [State.run_cons (t := s.takeBlink) rfl, State.takeLockouts, hl]
  exact State.run_map _ _ fun u n => rfl

theorem State.blink_takeLockouts (s : State) : s.takeBlink.takeLockouts.owed.blink = false ∧ s.takeBlink.takeLockouts.frame = s.frame := by
  have hf := s.takeBlink.frozen_takeLockouts
  refine ⟨(congrArg (fun t : State => t.owed.blink) hf : _).trans ?_, (congrArg (fun t : State => t.frame) hf : _).trans ?_⟩
  · show s.takeBlink.owed.blink = false
    unfold State.takeBlink
    split
    · rfl
    · next h => simpa using h
  · show s.takeBlink.frame = s.frame
    unfold State.takeBlink
    split <;> rfl

theorem State.active_of_frozen {s t : State} (h : t.frozen = s.frozen) : t.active = s.active :=
  (congrArg (fun u : State => u.agenda.head?) h : _)

/-- R117, R118: the event of the active context's expiry takes the decrement of a channel, if it is due. -/
theorem exec_takeTimer {s : State} {ctx : Context} (ha : s.active = some ctx) (c : Chan) :
    exec (if ctx.expiry = .revoke then Instr.expired c else Instr.timeOver c) s = .next (s.takeTimer c) := by
  cases he : ctx.expiry with
  | revoke =>
    show execExpired c s = _
    simp [execExpired, State.timerDue, State.takeTimer, ha, he]
  | warnOnly =>
    show execTimeOver c s = _
    simp [execTimeOver, State.timerDue, State.takeTimer, ha, he]

/-- R115: the timers of the list, by command, one after another. -/
theorem State.run_timers {s : State} {ctx : Context} (ha : s.active = some ctx) (l : List Chan) :
    s.run (l.map fun c => if ctx.expiry = .revoke then Instr.expired c else Instr.timeOver c) = l.foldl State.takeTimer s := by
  induction l generalizing s with
  | nil => rfl
  | cons c l ih =>
    rw [List.map_cons, State.run_cons (exec_takeTimer ha c), List.foldl_cons]
    exact ih ((State.active_of_frozen (s.frozen_takeTimer c)).trans ha)

/-- With no active context a due decrement falls away. -/
theorem State.takeTimers_of_inactive {s : State} (ha : s.active = none) :
    s.takeTimers = { s with owed := { s.owed with timers := [] } } := by
  have key : ∀ (l : List Chan) (s : State), s.active = none →
      (l.foldl State.takeTimer s).mapOwed (fun o => { o with timers := [] }) = s.mapOwed fun o => { o with timers := [] } := by
    intro l
    induction l with
    | nil => exact fun s _ => rfl
    | cons c l ih =>
      intro s ha
      rw [List.foldl_cons, ih _ ((State.active_of_frozen (s.frozen_takeTimer c)).trans ha), State.takeTimer]
      split
      · rw [State.tick, ha]; rfl
      · rfl
  have e : s.takeTimers.mapOwed (fun o => { o with timers := [] }) = s.takeTimers := by
    have ho : ({ s.takeTimers.owed with timers := [] } : Owed) = s.takeTimers.owed := by rw [← s.timers_takeTimers]
    rw [State.mapOwed, ho]; rfl
  exact e.symm.trans (key _ s ha)

/-- R10, R51, R154: the losses and key actions of an earlier sweep make no loss of a sweep due. -/
theorem State.lostSweep_settleSweep (s : State) : s.settleSweep.owed.lostSweep = none := by
  have present : ∀ (k : Nat) (l : List KeySlot) (s : State), (State.presentSlots k l s).owed.lostSweep = s.owed.lostSweep := by
    intro k l
    induction l with
    | nil => exact fun _ => rfl
    | cons x l ih =>
      intro s
      rw [State.presentSlots_cons, ih]
      exact (congrArg Owed.lostSweep (s.sansExpiries_takeNextSlot k x l) : _)
  have presentAll : ∀ s : State, s.presentAll.owed.lostSweep = s.owed.lostSweep := by
    intro s
    unfold State.presentAll
    split
    · rfl
    · exact present _ _ s
  calc s.settleSweep.owed.lostSweep
      = s.declareOwedLoss.presentAll.takeLosses.owed.lostSweep := (congrArg Owed.lostSweep (State.sansExpiries_takeAudit _) : _)
    _ = s.declareOwedLoss.presentAll.owed.lostSweep := (congrArg Owed.lostSweep (State.sansExpiries_takeLosses _) : _)
    _ = s.declareOwedLoss.owed.lostSweep := presentAll _
    _ = none := congrArg Owed.lostSweep s.sansExpiries_declareOwedLoss

/-- What handing a record on leaves of the steps that it does not make due. -/
theorem State.handed_owed (s : State) (k : Nat) (ups : List UpHalf) :
    ((s.trunkReturned k).handEntries k ups).closePresentation.owed.lostSweep = s.owed.lostSweep ∧
      ((s.trunkReturned k).handEntries k ups).closePresentation.owed.returned = s.owed.returned ∧
      ((s.trunkReturned k).handEntries k ups).closePresentation.owed.lockouts = s.owed.lockouts ∧
      ((s.trunkReturned k).handEntries k ups).closePresentation.owed.timers = s.owed.timers := by
  have ht : (s.trunkReturned k).owed = s.owed := by unfold State.trunkReturned; split <;> simp
  have hr : ∀ (l : List Nat) (s : State), (s.raiseFound l).owed = s.owed := by
    intro l
    induction l with
    | nil => exact fun _ => rfl
    | cons n l ih => exact fun s => (ih _).trans (s.raise_owed _)
  have hc : ∀ u : State, u.closePresentation.owed.lostSweep = u.owed.lostSweep ∧ u.closePresentation.owed.returned = u.owed.returned ∧
      u.closePresentation.owed.lockouts = u.owed.lockouts ∧ u.closePresentation.owed.timers = u.owed.timers := by
    intro u
    unfold State.closePresentation
    split <;> exact ⟨rfl, rfl, rfl, rfl⟩
  obtain ⟨h1, h2, h3, h4⟩ := hc ((s.trunkReturned k).handEntries k ups)
  rw [h1, h2, h3, h4, State.handEntries]
  simp only [hr, ht, and_self]

/-- R8: the return, where nothing else stands due from the last interval, leaves nothing of it due. -/
theorem State.intervalSettled_takeReturn {s : State} (hb : s.owed.blink = false) (hl : s.owed.lockouts = []) (ht : s.owed.timers = [])
    (hs : s.owed.lostSweep = none) : s.takeReturn.IntervalSettled := by
  cases hr : s.owed.returned with
  | none => rw [State.takeReturn_of_none hr]; exact ⟨hb, hl, ht, hs, hr⟩
  | some r =>
    have hblink : s.takeReturn.owed.blink = false := (State.unswept_chain s.unswept_takeReturn).2.2.2.2.2.trans hb
    let u := s.mapOwed Owed.sansReturned
    have hu : s.takeReturn = ((u.settleSweep.trunkReturned r.sweep).handEntries r.sweep r.ups).closePresentation := by
      rw [State.takeReturn, hr]; rfl
    obtain ⟨e1, e2, e3, e4⟩ := u.settleSweep.handed_owed r.sweep r.ups
    rw [← hu] at e1 e2 e3 e4
    obtain ⟨n1, n2⟩ := State.noExpiries_settleSweep (s := u) hl ht
    have hret : u.settleSweep.owed.returned = none := by
      have h := congrArg (fun t : State => t.owed.returned) (Owed.apart_sansReturned.settleSweep u)
      exact h.symm
    exact ⟨hblink, e3.trans n1, e4.trans n2, e1.trans u.lostSweep_settleSweep, e2.trans hret⟩

/-- What is left to take of the last interval where neither toggle nor lockout is due. -/
theorem State.settleInterval_of_counted {s : State} (hb : s.owed.blink = false) (hl : s.owed.lockouts = []) :
    s.settleInterval = s.takeTimers.declareOwedLoss.takeReturn := by
  rw [State.settleInterval, State.takeBlink_of_settled hb, State.takeLockouts_of_nil hl]

/-- The second part of O11: the steps of the last interval by command, and then the interval start. -/
theorem intervalStart_takesDue (s : State) (order : IntervalOrder) (h : s.frame = 96) :
    exec (.sweepIntervalStart order) s =
      exec (.sweepIntervalStart order) (s.run (.blinkPhaseToggle :: s.owed.lockouts.map Instr.lockoutExpiry)) ∧
    (∀ ctx, s.owed.blink = false → s.owed.lockouts = [] → s.active = some ctx →
      exec (.sweepIntervalStart order) s = exec (.sweepIntervalStart order)
        (s.run (s.owed.timers.map fun c => if ctx.expiry = .revoke then Instr.expired c else Instr.timeOver c))) ∧
    (s.owed.blink = false → s.owed.lockouts = [] → s.active = none →
      exec (.sweepIntervalStart order) s =
        exec (.sweepIntervalStart order) { s with owed := { s.owed with timers := [] } }) ∧
    (s.owed.blink = false → s.owed.lockouts = [] → s.owed.timers = [] →
      (s.owed.lostSweep ≠ none →
        exec (.sweepIntervalStart order) s = exec (.sweepIntervalStart order) (s.run [.lostSweep])) ∧
      (s.owed.lostSweep = none →
        exec (.sweepIntervalStart order) s = exec (.sweepIntervalStart order) (s.run [.sweepReturned]))) := by
  refine ⟨?_, fun ctx hb hl ha => ?_, fun hb hl ha => ?_, fun hb hl ht => ⟨fun hs => ?_, fun hs => ?_⟩⟩
  · rw [State.run_blink_lockouts]
    obtain ⟨hb, hf⟩ := s.blink_takeLockouts
    exact exec_sweepIntervalStart_congr h (hf.trans h) (State.settleInterval_of_counted hb (State.lockouts_takeLockouts _)) order
  · rw [State.run_timers ha]
    have hz := s.frozen_takeTimers
    have hf : s.takeTimers.frame = 96 := (congrArg (fun t : State => t.frame) hz : _).trans h
    have hb' : s.takeTimers.owed.blink = false := (congrArg (fun t : State => t.owed.blink) hz : _).trans hb
    have hl' : s.takeTimers.owed.lockouts = [] := List.subset_nil.1 (hl ▸ s.moves_takeTimers.owed_subset.1)
    refine exec_sweepIntervalStart_congr h hf ?_ order
    show s.takeTimers.settleInterval = s.settleInterval
    rw [State.settleInterval_of_counted hb' hl', State.settleInterval_of_counted hb hl,
      State.takeTimers_of_nil s.timers_takeTimers]
  · refine exec_sweepIntervalStart_congr h (t := { s with owed := { s.owed with timers := [] } }) h ?_ order
    rw [State.settleInterval_of_counted hb hl, State.takeTimers_of_inactive ha]
    generalize hw : ({ s with owed := { s.owed with timers := [] } } : State) = w
    have hb' : w.owed.blink = false := by rw [← hw]; exact hb
    have hl' : w.owed.lockouts = [] := by rw [← hw]; exact hl
    have ht' : w.owed.timers = [] := by rw [← hw]
    rw [State.settleInterval_of_counted hb' hl', State.takeTimers_of_nil ht']
  · have hrun : s.run [.lostSweep] = s.declareOwedLoss := by
      rw [State.run_cons (t := s.lostSweepStep) rfl, State.run_nil, State.lostSweepStep]
      split
      · rfl
      · next hn => exact absurd hn hs
    rw [hrun]
    obtain ⟨hf, -, -, -, -, hb'⟩ := State.unswept_chain s.unswept_declareOwedLoss
    obtain ⟨n1, n2⟩ := State.noExpiries_declareOwedLoss hl ht
    have hnone : s.declareOwedLoss.owed.lostSweep = none := congrArg Owed.lostSweep s.sansExpiries_declareOwedLoss
    refine exec_sweepIntervalStart_congr h (hf.trans h) ?_ order
    rw [State.settleInterval_of_counted (hb'.trans hb) n1, State.takeTimers_of_nil n2, State.declareOwedLoss_of_none hnone,
      State.settleInterval_of_counted hb hl, State.takeTimers_of_nil ht]
  · rw [State.run_cons (t := s.takeReturn) rfl, State.run_nil]
    obtain ⟨hf, -⟩ := State.unswept_chain s.unswept_takeReturn
    refine exec_sweepIntervalStart_congr h (hf.trans h) ?_ order
    rw [State.settleInterval_of_settled (State.intervalSettled_takeReturn hb hl ht hs), State.settleInterval_of_counted hb hl,
      State.takeTimers_of_nil ht, State.declareOwedLoss_of_none hs]

end Sys2Proof.Machine
end

section
/-! ## The emission and the counts (R4 to R7, R49, R111, R115) -/

namespace Sys2Proof.Machine

/-! ### The record (R4, R5, R17) -/

theorem drop_take_entries (l : List Command) {k : Nat} (hk : k < l.length) :
    ((l.flatMap entryBytes).drop (4 * k)).take 4 = entryBytes l[k] := by
  induction l generalizing k with
  | nil => simp at hk
  | cons c l ih =>
    cases k with
    | zero => simp [entryBytes]
    | succ k =>
      have h4 : 4 * (k + 1) = 4 * k + 4 := by omega
      rw [List.flatMap_cons, h4, Nat.add_comm, ← List.drop_drop, List.drop_left' (by rfl)]
      exact ih (by simpa using hk)

theorem length_entries (l : List Command) : (l.flatMap entryBytes).length = 4 * l.length := by
  induction l with
  | nil => rfl
  | cons c l ih => rw [List.flatMap_cons, List.length_append, ih, List.length_cons]; simp [entryBytes]; omega

theorem length_recordOf (b : Bool) (k : Nat) (l : List Command) : (recordOf b k l).length = 4 + 4 * l.length := by
  rw [recordOf, List.length_append, length_entries]; rfl

/-- R17: entry `n` of a record, its up half cleared. -/
theorem entry_recordOf (b : Bool) (k : Nat) (l : List Command) {j : Nat} (hj : j < l.length) :
    ((recordOf b k l).drop (4 * (j + 1))).take 4 = entryBytes l[j] := by
  have h4 : 4 * (j + 1) = 4 + 4 * j := by omega
  rw [h4, ← List.drop_drop]
  exact drop_take_entries l hj

/-! ### What an emission does to the seats (R6, R7) -/

theorem State.seats_emitSweep (s : State) : s.emitSweep.seats = s.seats.map fun (t : Seat) => t.emit (s.compose t) := by
  rw [State.emitSweep_eq]

theorem State.seat_of_lt (s : State) {n : Nat} (h1 : 1 ≤ n) (h2 : n ≤ s.seats.length) : s.seat n = s.seats[n - 1] := by
  obtain ⟨k, rfl⟩ : ∃ k, n = k + 1 := ⟨n - 1, by omega⟩
  simp [State.seat, List.getD_eq_getElem?_getD, List.getElem?_eq_getElem (show k < s.seats.length by omega)]

theorem State.seat_out (s : State) {n : Nat} (h : n = 0 ∨ s.seats.length < n) : s.seat n = Seat.reset := by
  cases n with
  | zero => rfl
  | succ k => simp [State.seat, List.getD_eq_getElem?_getD, List.getElem?_eq_none (show s.seats.length ≤ k by omega)]

theorem State.seat_emitSweep (s : State) {n : Nat} (h1 : 1 ≤ n) (h2 : n ≤ s.seats.length) :
    s.emitSweep.seat n = (s.seat n).emit (s.compose (s.seat n)) := by
  rw [State.seat_of_lt _ h1 (by simpa [State.seats_emitSweep] using h2), State.seat_of_lt s h1 h2]
  simp [State.seats_emitSweep]

/-- R6: the command table, read off a state with the same seat and channels. -/
theorem State.commandIs_compose {s t : State} {n : Nat} (hf : (t.seat n).flagged = (s.seat n).flagged)
    (hb : (t.seat n).bound = (s.seat n).bound) (hp : (t.seat n).place = (s.seat n).place) (hc : t.channels = s.channels) :
    t.CommandIs n (s.compose (s.seat n)) := by
  have hchan : ∀ c, t.chan c = s.chan c := fun c => by rw [State.chan, hc]; rfl
  unfold State.compose
  rw [← hf, ← hb, ← hp]
  simp only [← hchan]
  refine ⟨fun h => by simp [h], fun h1 h2 h3 => by simp [h1, h2, h3], fun c h0 h1 h2 h3 => ?_,
    fun h1 h2 h3 => by simp [h1, h2, h3], fun h1 h2 h3 => by simp [h1, h2, h3, Command.off]⟩
  rw [h1, h2]
  cases c <;> simp_all

/-! ### An interval start with nothing due from the last interval -/

theorem State.startInterval_of_settled {s : State} (h : s.frame = 96) (hs : s.IntervalSettled) (o : IntervalOrder) :
    s.startInterval o = s.beginInterval o := by
  rw [State.startInterval_due h, State.settleInterval_of_settled hs]

/-- In either order, the interval start is the emission of a state that differs from the one before it in what the floor's
operations can reach, and the state after it differs from that one in no more. -/
theorem State.beginInterval_emits (s : State) (o : IntervalOrder) :
    ∃ v : State, v.frozen = s.frozen ∧ (s.beginInterval o).frozen = v.emitSweep.frozen := by
  cases o with
  | emissionFirst => exact ⟨s, rfl, State.frozen_countInterval _⟩
  | countsFirst => exact ⟨s.countInterval.takeLockouts.takeTimers, by simp, rfl⟩

theorem State.blinkOn_of_frozen {s t : State} (h : t.frozen = s.frozen) :
    t.blinkOn = s.blinkOn ∧ t.blinkCount = s.blinkCount ∧ t.sweepNumber = s.sweepNumber ∧ t.stream = s.stream ∧
      t.lastEmitted = s.lastEmitted ∧ t.awaiting = s.awaiting ∧ t.frame = s.frame ∧ t.discarded = s.discarded ∧ t.scan = s.scan :=
  ⟨congrArg (·.blinkOn) h, congrArg (·.blinkCount) h, congrArg (·.sweepNumber) h, congrArg (·.stream) h,
    congrArg (·.lastEmitted) h, congrArg (·.awaiting) h, congrArg (·.frame) h, congrArg (·.discarded) h, congrArg (·.scan) h⟩

/-- R8: what is left of a candidate or of a disregarded record is passed over. -/
theorem Scan.atEmission_eq (x : Scan) :
    (x = .seeking → x.atEmission = .seeking) ∧
      (∀ got, x = .taking got → x.atEmission = (if 804 ≤ got.length then .seeking else .passing (804 - got.length))) ∧
      (∀ left, x = .finished left → x.atEmission = (if left = 0 then .seeking else .passing left)) ∧
      (∀ left, x = .passing left → x.atEmission = .passing left) := by
  refine ⟨fun h => by rw [h]; rfl, fun got h => ?_, fun left h => by rw [h]; rfl, fun left h => by rw [h]; rfl⟩
  rw [h]
  simp [Scan.atEmission, Scan.passOver, Config.recordBytes, Nat.sub_eq_zero_iff_le]

/-- R4 to R8: what the state after an interval start shows of its emission. -/
theorem State.emission_shows {s v t : State} (hv : v.frozen = s.frozen) (ht : t.frozen = v.emitSweep.frozen)
    (hs : s.IntervalSettled) (hl : s.seats.length = 200) :
    t.stream.length = 804 ∧
      t.stream.take 4 = [0xB4#8, if s.blinkOn then 1 else 0, BitVec.ofNat 8 (s.sweepNumber / 256),
        BitVec.ofNat 8 (s.sweepNumber % 256)] ∧
      (∀ n, 1 ≤ n → n ≤ 200 → (t.stream.drop (4 * n)).take 4 =
        [BitVec.ofNat 8 (t.seat n).inFlight.lamp.code, BitVec.ofNat 8 (chanCode (t.seat n).inFlight.chan), 0, 0]) ∧
      t.sweepNumber = (s.sweepNumber + 1) % 65536 ∧ t.lastEmitted = s.sweepNumber ∧ t.awaiting = some s.sweepNumber ∧
      t.owed.lostSweep = s.awaiting ∧ t.frame = 0 ∧ t.blinkOn = s.blinkOn ∧
      (s.blinkCount < 124 → t.blinkCount = s.blinkCount + 1 ∧ t.owed.blink = false) ∧
      (s.blinkCount = 124 → t.blinkCount = 124 ∧ t.owed.blink = true) ∧
      t.discarded = s.discarded ∧ t.scan = s.scan.atEmission := by
  obtain ⟨b1, b2, b3, -, -, b6, -, b8, b9⟩ := State.blinkOn_of_frozen hv
  obtain ⟨c1, c2, c3, c4, c5, c6, c7, c8, c9⟩ := State.blinkOn_of_frozen ht
  have hlv : v.seats.length = 200 := (State.frozen_length hv).trans hl
  have hseat : ∀ n, (t.seat n).inFlight = (v.emitSweep.seat n).inFlight := fun n =>
    (congrArg Seat.inFlight (State.frozen_seat ht n) : _)
  have ho1 : t.owed.lostSweep = v.emitSweep.owed.lostSweep := by rw [State.frozen_owed ht]
  have ho2 : t.owed.blink = v.emitSweep.owed.blink := by rw [State.frozen_owed ht]
  have hb : v.owed.blink = false := by rw [State.frozen_owed hv]; exact hs.1
  have hstream : t.stream = recordOf s.blinkOn s.sweepNumber (v.seats.map v.compose) := by
    rw [c4, State.emitSweep_eq, b1, b3]
  rw [hstream, length_recordOf, List.length_map, hlv, c1, c2, c3, c5, c6, c7, c8, c9, ho1, ho2, State.emitSweep_eq, b3, b6, b1, b2, b8,
    b9, hb]
  refine ⟨rfl, rfl, fun n h1 h2 => ?_, rfl, rfl, rfl, rfl, rfl, rfl, fun h => ?_, fun h => ?_, rfl, rfl⟩
  · obtain ⟨k, rfl⟩ : ∃ k, n = k + 1 := ⟨n - 1, by omega⟩
    rw [entry_recordOf _ _ _ (by simp [hlv]; omega), hseat, State.seat_emitSweep _ h1 (by omega), List.getElem_map,
      State.seat_of_lt v h1 (by omega)]
    rfl
  · simp [h, Nat.not_le.2 h]
  · simp [h]

/-- Settles O11: the codes, then what stands due taken first, then what an emission shows. -/
theorem intervalStartEmitsRecord : Obligations.IntervalStartEmitsRecord := by
  refine ⟨⟨by decide, rfl, by decide⟩, intervalStart_takesDue, fun s o h hs hl => ?_⟩
  obtain ⟨v, hv, ht⟩ := s.beginInterval_emits o
  refine ⟨s.beginInterval o, by rw [exec_sweepIntervalStart, State.startInterval_of_settled h hs], ?_⟩
  obtain ⟨e1, e2, e3, e4, e5, e6, e7, e8, e9, e10, e11, e12, e13⟩ := State.emission_shows hv ht hs hl
  obtain ⟨x1, x2, x3, x4⟩ := s.scan.atEmission_eq
  refine ⟨e1, e2, e3, e4, e5, e6, e7, e8, e9, e10, e11, e12, ?_⟩
  rw [e13]
  exact ⟨x1, x2, x3, x4⟩

/-- Settles O12: the commands are composed from the state that the emission finds, before the counts or after them. -/
theorem intervalStartComposesCommands : Obligations.IntervalStartComposesCommands := by
  intro s h hs hl n h1 h2
  refine ⟨⟨s.emitSweep.countInterval, ?_, ?_⟩, ⟨s.countInterval.takeLockouts.takeTimers.emitSweep, ?_, ?_⟩⟩
  · rw [exec_sweepIntervalStart, State.startInterval_of_settled h hs]; rfl
  · have hf := State.frozen_seat s.emitSweep.frozen_countInterval n
    have e1 : (s.emitSweep.countInterval.seat n).lastSent = (s.emitSweep.seat n).lastSent := (congrArg Seat.lastSent hf : _)
    have e2 : (s.emitSweep.countInterval.seat n).inFlight = (s.emitSweep.seat n).inFlight := (congrArg Seat.inFlight hf : _)
    rw [e1, e2, State.seat_emitSweep s h1 (by omega)]
    exact ⟨rfl, State.commandIs_compose rfl rfl rfl rfl⟩
  · rw [exec_sweepIntervalStart, State.startInterval_of_settled h hs]; rfl
  · have hv : s.countInterval.takeLockouts.takeTimers.frozen = s.frozen := by simp
    generalize s.countInterval.takeLockouts.takeTimers = v at hv ⊢
    have hlv : v.seats.length = 200 := (State.frozen_length hv).trans hl
    have e := State.seat_emitSweep v h1 (by omega)
    have hi : (v.seat n).inFlight = (s.seat n).inFlight := (congrArg Seat.inFlight (State.frozen_seat hv n) : _)
    have hc : v.emitSweep.channels = v.channels := by rw [State.emitSweep_eq]
    refine ⟨by rw [e]; exact hi, ?_⟩
    have hin : (v.emitSweep.seat n).inFlight = v.compose (v.seat n) := by rw [e]; rfl
    rw [hin]
    exact State.commandIs_compose (by rw [e]; rfl) (by rw [e]; rfl) (by rw [e]; rfl) hc

end Sys2Proof.Machine
end

section
/-! ## Counts before the emission or after it (R6, R49, R111, R115) -/

namespace Sys2Proof.Machine

/-- A state without what an emission writes. -/
def State.unemitted (s : State) : State :=
  { s with
    stream := [], sweepNumber := 0, lastEmitted := 0, awaiting := none, scan := .seeking, frame := 0, blinkCount := 0,
    seats := s.seats.map Seat.uncommanded, owed := { s.owed with lostSweep := none, blink := false } }

theorem State.unemitted_eq {s t : State} (h : t.unemitted = s.unemitted) (h1 : t.sweepNumber = s.sweepNumber)
    (h2 : t.lastEmitted = s.lastEmitted) (h3 : t.awaiting = s.awaiting) (h4 : t.scan = s.scan) (h5 : t.frame = s.frame)
    (h6 : t.blinkCount = s.blinkCount) (h7 : t.owed.lostSweep = s.owed.lostSweep) (h8 : t.owed.blink = s.owed.blink) :
    t = { s with stream := t.stream, seats := t.seats } := by
  have ho : t.owed = s.owed := by
    have h0 : t.unemitted.owed = s.unemitted.owed := congrArg State.owed h
    simp only [State.unemitted, Owed.mk.injEq] at h0
    cases ht : t.owed
    cases hs : s.owed
    simp_all
  cases s; cases t
  simp only [State.unemitted, State.mk.injEq] at *
  simp_all

theorem State.unemitted_emitSweep (s : State) : s.emitSweep.unemitted = s.unemitted := by
  have hseats : s.emitSweep.seats.map Seat.uncommanded = s.seats.map Seat.uncommanded := by
    rw [State.seats_emitSweep, List.map_map]; rfl
  unfold State.unemitted
  rw [hseats, State.emitSweep_eq]

theorem State.unemitted_seat (s : State) (n : Nat) : s.unemitted.seat n = (s.seat n).uncommanded := by
  cases n with
  | zero => rfl
  | succ k =>
    simp only [State.unemitted, State.seat, List.getD_eq_getElem?_getD, List.getElem?_map]
    cases s.seats[k]? <;> rfl

/-- The floor's operations look at nothing that an emission writes. -/
theorem State.unread_unemitted : State.Unread State.unemitted where
  agenda _ := rfl
  settings _ := rfl
  floor _ := rfl
  waiting _ := rfl
  speakers _ := rfl
  channels _ := rfl
  seat s n := by rw [State.unemitted_seat]; rfl
  setChan _ _ _ := rfl
  updSeat s n f hf := by
    cases n with
    | zero => rfl
    | succ k =>
      have e : (s.seats.modify k f).map Seat.uncommanded = (s.seats.map Seat.uncommanded).modify k f := by
        apply List.ext_getElem?
        intro i
        simp only [List.getElem?_map, List.getElem?_modify]
        cases s.seats[i]? with
        | none => rfl
        | some t =>
          by_cases hk : k = i
          · simp only [Option.map_some, hk, if_true]
            exact congrArg some (hf t Command.off Command.off).symm
          · simp [hk]
      exact congrArg (fun l => ({ s.unemitted with seats := l } : State)) e
  raise s x := by
    unfold State.raise
    split
    · next he =>
      rw [if_pos (show s.unemitted.settings.enables x = true from he)]
      split
      · next hl => rw [if_pos (show s.unemitted.notices.length < Config.noticeMax from hl)]; rfl
      · next hl => rw [if_neg (show ¬s.unemitted.notices.length < Config.noticeMax from hl)]; rfl
    · next he => rw [if_neg (show ¬s.unemitted.settings.enables x = true from he)]
  withFloor _ _ := rfl
  withWaiting _ _ := rfl
  withSpeakers _ _ := rfl
  stopTimer _ _ := rfl
  dropLockout _ _ := rfl

theorem State.unemitted_countLockouts (s : State) : s.countLockouts.unemitted = s.unemitted.countLockouts := by
  have e1 : (s.seats.map Seat.countLockout).map Seat.uncommanded = (s.seats.map Seat.uncommanded).map Seat.countLockout := by
    rw [List.map_map, List.map_map]
    refine List.map_congr_left fun t _ => ?_
    simp only [Function.comp, Seat.countLockout, Seat.uncommanded]
    by_cases hk : 1 < t.lockout <;> simp [hk]
  have e2 : s.unemitted.expiringLockouts = s.expiringLockouts := by
    simp only [State.expiringLockouts, State.unemitted_seat]; rfl
  rw [State.countLockouts, State.countLockouts, e2]
  exact congrArg (fun l => ({ s.unemitted with seats := l, owed := { s.unemitted.owed with lockouts := s.expiringLockouts } } : State)) e1

theorem State.unemitted_countTimers (s : State) : s.countTimers.unemitted = s.unemitted.countTimers := by
  have e : s.unemitted.runningTimers = s.runningTimers := by
    simp only [State.runningTimers, State.unread_unemitted.suspended, State.unread_unemitted.chan]
  rw [State.countTimers, State.countTimers, e]
  refine State.update_foldl (fun s c => ?_) _ s
  unfold State.countTimer
  rw [State.unread_unemitted.chan]
  split
  · rfl
  · exact State.unread_unemitted.tick s c

theorem State.unemitted_countInterval (s : State) : s.countInterval.unemitted = s.unemitted.countInterval := by
  rw [State.countInterval, State.unemitted_countTimers, State.unemitted_countLockouts]; rfl

theorem State.unemitted_takeLockouts (s : State) : s.takeLockouts.unemitted = s.unemitted.takeLockouts := by
  refine State.update_foldl (f := State.takeLockout) (fun s n => ?_) _ s
  unfold State.takeLockout
  rw [show s.unemitted.owed.lockouts = s.owed.lockouts from rfl]
  split
  · exact congrArg (fun t : State => t.setOwed _) (State.unread_unemitted.updSeat s n _ fun _ _ _ => rfl)
  · rfl

theorem State.unemitted_takeTimers (s : State) : s.takeTimers.unemitted = s.unemitted.takeTimers := by
  refine State.update_foldl (f := State.takeTimer) (fun s c => ?_) _ s
  unfold State.takeTimer
  rw [show s.unemitted.owed.timers = s.owed.timers from rfl]
  split
  · exact State.unread_unemitted.tick s c
  · rfl

/-- Emission first and then counts, or counts first: the states differ in the emission alone. -/
theorem State.unemitted_orders (s : State) :
    s.countInterval.takeLockouts.takeTimers.emitSweep.unemitted = s.emitSweep.countInterval.takeLockouts.takeTimers.unemitted := by
  rw [State.unemitted_emitSweep]
  simp only [State.unemitted_takeTimers, State.unemitted_takeLockouts, State.unemitted_countInterval, State.unemitted_emitSweep]

/-- R7: an emission moves the commands in flight of every seat, whatever the counts have done. -/
theorem State.lastSent_emitSweep_of_frozen {s v : State} (h : v.frozen = s.frozen) (n : Nat) :
    (v.emitSweep.seat n).lastSent = (s.emitSweep.seat n).lastSent := by
  have hl := State.frozen_length h
  by_cases hn : 1 ≤ n ∧ n ≤ s.seats.length
  · rw [State.seat_emitSweep s hn.1 hn.2, State.seat_emitSweep v hn.1 (hl ▸ hn.2)]
    exact (congrArg Seat.inFlight (State.frozen_seat h n) : _)
  · rw [State.seat_out s.emitSweep (by simp only [State.seats_emitSweep, List.length_map]; omega),
      State.seat_out v.emitSweep (by simp only [State.seats_emitSweep, List.length_map]; omega)]

theorem State.run_append {s t : State} {a : List Instr} (h : s.run a = t) (ha : ∀ c ∈ a, ∀ u, ∃ v, exec c u = .next v) (b : List Instr) :
    s.run (a ++ b) = t.run b := by
  induction a generalizing s with
  | nil => rw [← h]; rfl
  | cons c a ih =>
    obtain ⟨v, hv⟩ := ha c (by simp) s
    rw [List.cons_append, State.run_cons hv]
    rw [State.run_cons hv] at h
    exact ih h fun d hd => ha d (by simp [hd])

/-- With no ordinary channel LIVE, no timer counts and none becomes due. -/
theorem State.timers_countInterval_of_idle {s : State} (h : ∀ c, c ≠ .p → (s.chan c).state ≠ .live) (ht : s.owed.timers = []) :
    s.countInterval.owed.timers = [] := by
  have hr : s.countHeld.countLockouts.runningTimers = [] := by
    unfold State.runningTimers
    split
    · rfl
    · refine List.filter_eq_nil_iff.2 fun c hc => ?_
      have hp : c ≠ .p := by rintro rfl; exact absurd (mem_ordinaryChans.1 hc) (by decide)
      have hstate : (s.countHeld.countLockouts.chan c).state = (s.chan c).state := by
        show (s.countHeld.chan c).state = _
        rw [State.chan_countHeld, Channel.countHeld]
        split <;> rfl
      simp [hstate, h c hp]
  rw [State.countInterval, State.countTimers, hr]
  exact ht

/-- The expiries of an interval start by command: the lockouts, then the timers. -/
theorem State.run_expiries {u : State} {e : Expiry} (h : u.owed.timers = [] ∨ ∃ ctx, u.active = some ctx ∧ e = ctx.expiry) :
    u.run (u.owed.lockouts.map Instr.lockoutExpiry ++
      u.owed.timers.map fun c => if e = .revoke then Instr.expired c else Instr.timeOver c) = u.takeLockouts.takeTimers := by
  have hl : u.run (u.owed.lockouts.map Instr.lockoutExpiry) = u.takeLockouts := State.run_map _ _ fun u n => rfl
  have ht : u.takeLockouts.owed.timers = u.owed.timers := by
    have key : ∀ (l : List Nat) (s : State), (l.foldl State.takeLockout s).owed.timers = s.owed.timers := by
      intro l
      induction l with
      | nil => exact fun _ => rfl
      | cons n l ih =>
        intro s
        rw [List.foldl_cons, ih, State.takeLockout]
        split <;> rfl
    exact key _ u
  rw [State.run_append hl (fun c hc v => ?_), State.takeTimers, ht]
  · obtain hn | ⟨ctx, ha, rfl⟩ := h
    · rw [hn]; rfl
    · exact State.run_timers ((State.active_of_frozen u.frozen_takeLockouts).trans ha) _
  · obtain ⟨n, -, rfl⟩ := List.mem_map.1 hc
    exact ⟨_, rfl⟩

/-- Settles O14: the floor's operations look at nothing that the emission writes, so the emission can come after the counts. -/
theorem intervalStartCountsFirst : Obligations.IntervalStartCountsFirst := by
  intro s u w e h hs hl he hidle hu hw
  have hu' : u = s.emitSweep.countInterval := by
    rw [hu, State.run_cons (exec_sweepIntervalStart _ _), State.run_nil, State.startInterval_of_settled h hs]; rfl
  have hw' : w = s.emitSweep.countInterval.takeLockouts.takeTimers := by
    rw [hw, State.run_expiries, hu']
    have ha : u.active = s.active := by
      rw [hu', State.active_of_frozen s.emitSweep.frozen_countInterval, State.active, State.emitSweep_eq]; rfl
    cases hctx : s.active with
    | some ctx => exact .inr ⟨ctx, ha.trans hctx, he ctx hctx⟩
    | none =>
      left
      rw [hu']
      refine State.timers_countInterval_of_idle (fun c hc => ?_) ?_
      · have hch : s.emitSweep.chan c = s.chan c := by rw [State.emitSweep_eq]; rfl
        rw [hch]
        exact hidle hctx c hc
      · rw [State.emitSweep_eq]; exact hs.2.2.1
  have hz : w.frozen = s.emitSweep.frozen := by rw [hw']; simp
  have hv : s.countInterval.takeLockouts.takeTimers.frozen = s.frozen := by simp
  have hm := s.unemitted_orders
  rw [← hw'] at hm
  refine ⟨s.countInterval.takeLockouts.takeTimers.emitSweep, ?_, ?_⟩
  · rw [exec_sweepIntervalStart, State.startInterval_of_settled h hs]; rfl
  have hlock : s.countInterval.takeLockouts.takeTimers.owed.lockouts = [] :=
    List.subset_nil.1 (State.lockouts_takeLockouts _ ▸ (State.moves_takeTimers _).owed_subset.1)
  have htime : s.countInterval.takeLockouts.takeTimers.owed.timers = [] := State.timers_takeTimers _
  generalize s.countInterval.takeLockouts.takeTimers = v at hv hm hlock htime ⊢
  obtain ⟨b1, b2, b3, -, -, b6, -, b8, b9⟩ := State.blinkOn_of_frozen hv
  obtain ⟨c1, c2, c3, c4, c5, c6, c7, c8, c9⟩ := State.blinkOn_of_frozen hz
  have hblink : v.owed.blink = s.owed.blink := by rw [State.frozen_owed hv]
  have ho1 : w.owed.lostSweep = s.emitSweep.owed.lostSweep := by rw [State.frozen_owed hz]
  have ho2 : w.owed.blink = s.emitSweep.owed.blink := by rw [State.frozen_owed hz]
  have eo : v.emitSweep.owed = { v.owed with lostSweep := v.awaiting, blink := v.owed.blink || decide (124 ≤ v.blinkCount) } := by
    rw [State.emitSweep_eq]
  refine ⟨by rw [eo]; exact hlock, by rw [eo]; exact htime, ?_, ?_, fun n => ?_⟩
  · refine State.unemitted_eq hm ?_ ?_ ?_ ?_ ?_ ?_ ?_ ?_
    · rw [c3, State.emitSweep_eq, State.emitSweep_eq, b3]
    · rw [c5, State.emitSweep_eq, State.emitSweep_eq, b3]
    · rw [c6, State.emitSweep_eq, State.emitSweep_eq, b3]
    · rw [c9, State.emitSweep_eq, State.emitSweep_eq, b9]
    · rw [c7, State.emitSweep_eq, State.emitSweep_eq]
    · rw [c2, State.emitSweep_eq, State.emitSweep_eq, b2]
    · rw [ho1, State.emitSweep_eq, State.emitSweep_eq, b6]
    · rw [ho2, State.emitSweep_eq, State.emitSweep_eq, hblink, b2]
  · rw [State.seats_emitSweep, List.length_map]
    exact (State.frozen_length hv).trans hl
  · have hseat : (v.emitSweep.seat n).uncommanded = (w.seat n).uncommanded := by
      rw [← State.unemitted_seat, ← State.unemitted_seat, hm]
    have hlast : (v.emitSweep.seat n).lastSent = (w.seat n).lastSent :=
      (State.lastSent_emitSweep_of_frozen hv n).trans (congrArg Seat.lastSent (State.frozen_seat hz n) : _).symm
    generalize v.emitSweep.seat n = x at hseat hlast ⊢
    generalize w.seat n = y at hseat hlast ⊢
    cases x; cases y
    simp only [Seat.uncommanded, Seat.mk.injEq] at *
    simp_all

end Sys2Proof.Machine
end

section
/-! ## The return of a sweep (R8, R9, R28 to R31, R38, R46, R51, R79, R152) -/

namespace Sys2Proof.Machine

/-! ### What an earlier sweep has left due -/

theorem exec_sweepReturned (s : State) : exec .sweepReturned s = .next s.takeReturn := rfl

/-- R8: a return finds what an earlier sweep has left due taken, and looks at nothing else that taking it could change. -/
theorem State.takeReturn_eq {s : State} {r : ReturnedSweep} (h : s.owed.returned = some r) :
    s.takeReturn = (((s.settleSweep.mapOwed Owed.sansReturned).trunkReturned r.sweep).handEntries r.sweep r.ups).closePresentation := by
  rw [Owed.apart_sansReturned.settleSweep, State.takeReturn, h]; rfl

theorem exec_sweepReturned_congr {s t : State} {r : ReturnedSweep} (hs : s.owed.returned = some r) (ht : t.owed.returned = some r)
    (h : t.settleSweep = s.settleSweep) : exec .sweepReturned s = exec .sweepReturned t := by
  rw [exec_sweepReturned, exec_sweepReturned, State.takeReturn_eq hs, State.takeReturn_eq ht, h]

theorem State.returned_closePresentation (s : State) : s.closePresentation.owed.returned = s.owed.returned := by
  unfold State.closePresentation; split <;> rfl

/-- The first part of O17. -/
theorem sweepReturned_takesDue (s : State) (r : ReturnedSweep) (h : s.owed.returned = some r) :
    (s.owed.lostSweep ≠ none → exec .sweepReturned s = exec .sweepReturned (s.run [.lostSweep])) ∧
    (s.owed.lostSweep = none → s.owed.actions = none →
      exec .sweepReturned s = exec .sweepReturned (s.run [.seatLost, .auditSweep])) ∧
    (∀ k, s.owed.lostSweep = none → s.owed.actions = some { sweep := k, slots := [] } →
      exec .sweepReturned s = exec .sweepReturned s.closePresentation) ∧
    (∀ k slot rest a, s.owed.lostSweep = none → s.owed.actions = some { sweep := k, slots := slot :: rest } →
      ((s.seat slot.seat).derive slot.event = some a ∨
        ((s.seat slot.seat).derive slot.event = none ∧ a.comesFrom slot.event = true)) →
      exec .sweepReturned s = exec .sweepReturned (s.run [a.command slot.seat])) := by
  refine ⟨fun hl => ?_, fun hl ha => ?_, fun k hl ha => ?_, fun k slot rest a hl ha hd => ?_⟩
  · have hrun : s.run [.lostSweep] = s.declareOwedLoss := by
      rw [State.run_cons (t := s.lostSweepStep) rfl, State.run_nil, State.lostSweepStep]
      split
      · rfl
      · next hn => exact absurd hn hl
    rw [hrun]
    have ho := s.sansExpiries_declareOwedLoss
    have hnone : s.declareOwedLoss.owed.lostSweep = none := congrArg Owed.lostSweep ho
    refine exec_sweepReturned_congr h ((congrArg Owed.returned ho : _).trans h) ?_
    rw [State.settleSweep, State.declareOwedLoss_of_none hnone]; rfl
  · have hrun : s.run [.seatLost, .auditSweep] = s.takeLosses.takeAudit := by
      rw [State.run_cons (t := s.takeLosses) rfl, State.run_cons (t := s.takeLosses.takeAudit) rfl, State.run_nil]
    rw [hrun]
    have hr : s.takeLosses.takeAudit.owed.returned = s.takeLosses.owed.returned :=
      (congrArg Owed.returned s.takeLosses.sansExpiries_takeAudit : _)
    have hr' : s.takeLosses.owed.returned = s.owed.returned := (congrArg Owed.returned s.sansExpiries_takeLosses : _)
    refine exec_sweepReturned_congr h (hr.trans (hr'.trans h)) ?_
    rw [State.settleSweep_of_settled (State.sweepSettled_takeAudit hl ha), State.settleSweep, State.declareOwedLoss_of_none hl,
      State.presentAll_of_none ha]
  · refine exec_sweepReturned_congr h (s.returned_closePresentation.trans h) ?_
    have hp : s.closePresentation.presentAll = s.presentAll := by
      rw [State.presentAll_closePresentation ha, State.presentAll, ha]
    rw [State.settleSweep, State.declareOwedLoss_of_none (s.lostSweep_closePresentation.trans hl), hp, State.settleSweep,
      State.declareOwedLoss_of_none hl]
  · rw [State.run_slot ha hd]
    have hr : (s.takeNextSlot k slot rest).owed.returned = s.owed.returned :=
      (congrArg Owed.returned (s.sansExpiries_takeNextSlot k slot rest) : _)
    exact exec_sweepReturned_congr h ((State.returned_closePresentation _).trans (hr.trans h)) (State.settleSweep_slot hl ha)

/-! ### The entries of a record beside their seats (R9) -/

theorem length_pairUp (l : List Seat) (ups : List UpHalf) : (pairUp l ups).length = l.length := by
  induction l generalizing ups with
  | nil => rfl
  | cons t l ih => cases ups <;> simp [pairUp, ih]

theorem getElem_pairUp (l : List Seat) (ups : List UpHalf) {i : Nat} (h : i < (pairUp l ups).length) :
    (pairUp l ups)[i] = (l.getD i Seat.reset, ups.getD i UpHalf.unanswered) := by
  induction l generalizing ups i with
  | nil => simp [pairUp] at h
  | cons t l ih =>
    cases ups with
    | nil =>
      cases i with
      | zero => rfl
      | succ i => simpa [pairUp] using ih [] (i := i) (by simpa [pairUp] using h)
    | cons u ups =>
      cases i with
      | zero => rfl
      | succ i => simpa [pairUp] using ih ups (i := i) (by simpa [pairUp] using h)

/-- The entry of seat `n` beside it. -/
def State.paired (s : State) (ups : List UpHalf) (n : Nat) : Seat × UpHalf := (s.seat n, upOf ups n)

theorem State.pairUp_seats {s : State} (hl : s.seats.length = 200) (ups : List UpHalf) :
    pairUp s.seats ups = seatNumbers.map (s.paired ups) := by
  refine List.ext_getElem (by rw [length_pairUp, hl]; rfl) fun i h1 h2 => ?_
  rw [getElem_pairUp]
  have hi : seatNumbers[i]'(by simpa using h2) = 1 + i := by simp [seatNumbers]
  rw [List.getElem_map, hi, Nat.add_comm]
  rfl

theorem numbersOf_range' (p : Seat × UpHalf → Bool) (f : Nat → Seat × UpHalf) (n m : Nat) :
    numbersOf p n ((List.range' n m).map f) = (List.range' n m).filter fun i => p (f i) := by
  induction m generalizing n with
  | zero => rfl
  | succ m ih =>
    rw [List.range'_succ, List.map_cons, numbersOf, ih, List.filter_cons]

theorem slotsFrom_range' (m : Settings) (f : Nat → Seat × UpHalf) (n k : Nat) :
    slotsFrom m n ((List.range' n k).map f) =
      (List.range' n k).map fun i => ((f i).1.events m (f i).2).map fun e => { seat := i, event := e } := by
  induction k generalizing n with
  | zero => rfl
  | succ k ih => rw [List.range'_succ, List.map_cons, slotsFrom, ih, List.map_cons]

theorem auditEntries_range' (f : Nat → Seat × UpHalf) (n k : Nat) :
    auditEntries n ((List.range' n k).map f) = ((List.range' n k).filter fun i => (f i).2.answered).map fun i =>
      { seat := i, commandedOpen := (f i).1.lastSent.chan.isSome, reportedOpen := (f i).2.live } := by
  induction k generalizing n with
  | zero => rfl
  | succ k ih =>
    rw [List.range'_succ, List.map_cons, auditEntries, ih, List.filter_cons]
    split <;> rfl

/-! ### What a return does where nothing earlier stands due -/

/-- R9: the presentation slots of a record, in rotation order. -/
def State.slotsOf (s : State) (ups : List UpHalf) : List KeySlot :=
  rotationSlots s.rotation (seatNumbers.map fun n =>
    ((s.seat n).events s.settings (upOf ups n)).map fun e => { seat := n, event := e })

/-- R29: the seats whose silence this record brings to the presence timeout. -/
def State.dueLosses (s : State) (ups : List UpHalf) : List Nat :=
  seatNumbers.filter fun n => (s.seat n).isDueLost s.settings.presenceTimeout (upOf ups n)

/-- R152: the answered entries of a record, with the last command sent. -/
def State.auditOf (s : State) (ups : List UpHalf) : List AuditEntry :=
  (seatNumbers.filter fun n => (upOf ups n).answered).map fun n =>
    { seat := n, commandedOpen := (s.seat n).lastSent.chan.isSome, reportedOpen := (upOf ups n).live }

/-- A record handed on, but for the notices it raises and the close of an empty presentation. -/
def State.handed (s : State) (k : Nat) (ups : List UpHalf) : State :=
  { s with
    trunk := .up, lostRun := 0, seats := seatNumbers.map fun n => (s.seat n).swept s.settings (upOf ups n),
    owed := { s.owed with returned := none, actions := some { sweep := k, slots := s.slotsOf ups },
                          losses := s.dueLosses ups, audit := some (s.auditOf ups) } }

/-- R28: the absent seats that answer a record. -/
def State.foundSeats (s : State) (ups : List UpHalf) : List Nat :=
  seatNumbers.filter fun n => (upOf ups n).answered && !(s.seat n).present

/-- R11, R28: the notices that a record raises. -/
def State.returnNotices (s : State) (k : Nat) (ups : List UpHalf) : List Notice :=
  (if s.trunk = .down then [.trunkUp k] else []) ++ (s.foundSeats ups).map Notice.seatFound

theorem State.trunkReturned_eq (s : State) (k : Nat) : s.trunkReturned k =
    State.raiseAll { s with lostRun := 0, trunk := .up } (if s.trunk = TrunkState.down then [.trunkUp k] else []) := by
  unfold State.trunkReturned
  cases h : s.trunk with
  | up => rfl
  | down => rfl

theorem State.raiseFound_eq (s : State) (l : List Nat) : s.raiseFound l = s.raiseAll (l.map Notice.seatFound) := by
  rw [State.raiseFound, State.raiseAll, List.foldl_map]

/-- R9: the entries of a record, read seat by seat. -/
theorem State.handEntries_eq {s : State} (hl : s.seats.length = 200) (k : Nat) (ups : List UpHalf) :
    s.handEntries k ups =
      { s.raiseAll ((s.foundSeats ups).map Notice.seatFound) with
        seats := seatNumbers.map fun n => (s.seat n).swept s.settings (upOf ups n),
        owed := { (s.raiseAll ((s.foundSeats ups).map Notice.seatFound)).owed with
          actions := some { sweep := k, slots := s.slotsOf ups }, losses := s.dueLosses ups, audit := some (s.auditOf ups) } } := by
  unfold State.handEntries
  rw [State.pairUp_seats hl]
  simp only [State.raiseFound_eq, seatNumbers, numbersOf_range', slotsFrom_range', auditEntries_range', List.map_map]
  rfl

/-- A record handed on: the state but for its notices, and the notices. -/
theorem State.takeReturn_handed {s : State} {k : Nat} {ups : List UpHalf} (h : s.owed.returned = some { sweep := k, ups := ups })
    (hs : s.SweepSettled) (hl : s.seats.length = 200) :
    ∃ w : State, s.takeReturn = w.closePresentation ∧ w.sansNotices = (s.handed k ups).sansNotices ∧
      s.HasRaised w (s.returnNotices k ups) := by
  let m : State := { s.mapOwed Owed.sansReturned with lostRun := 0, trunk := .up }
  let t := (s.mapOwed Owed.sansReturned).trunkReturned k
  have ht : t = m.raiseAll (if s.trunk = TrunkState.down then [.trunkUp k] else []) := State.trunkReturned_eq _ k
  have hm : t.sansNotices = m.sansNotices := by rw [ht, State.sansNotices_raiseAll]
  have hfound : t.foundSeats ups = s.foundSeats ups := (congrArg (fun u : State => u.foundSeats ups) hm : _)
  have hw : (t.raiseAll ((t.foundSeats ups).map Notice.seatFound)).sansNotices = m.sansNotices := by
    rw [State.sansNotices_raiseAll, hm]
  have hlt : t.seats.length = 200 := (congrArg (fun u : State => u.seats.length) hm : _).trans hl
  refine ⟨t.handEntries k ups, by rw [State.takeReturn_eq h, State.settleSweep_of_settled hs], ?_, ?_⟩
  · have e1 : t.slotsOf ups = s.slotsOf ups := (congrArg (fun u : State => u.slotsOf ups) hm : _)
    have e2 : t.dueLosses ups = s.dueLosses ups := (congrArg (fun u : State => u.dueLosses ups) hm : _)
    have e3 : t.auditOf ups = s.auditOf ups := (congrArg (fun u : State => u.auditOf ups) hm : _)
    have e4 : (fun n => (t.seat n).swept t.settings (upOf ups n)) = fun n => (s.seat n).swept s.settings (upOf ups n) :=
      (congrArg (fun (u : State) n => (u.seat n).swept u.settings (upOf ups n)) hm : _)
    rw [State.handEntries_eq hlt, e1, e2, e3, e4]
    exact congrArg (fun u : State => { u with
      seats := seatNumbers.map fun n => (s.seat n).swept s.settings (upOf ups n),
      owed := { u.owed with actions := some { sweep := k, slots := s.slotsOf ups }, losses := s.dueLosses ups,
                            audit := some (s.auditOf ups) } }) hw
  · have hv : (t.handEntries k ups).noticeView = (m.raiseAll (s.returnNotices k ups)).noticeView := by
      rw [State.handEntries_eq hlt, State.returnNotices, State.raiseAll_append, ← ht, hfound]; rfl
    have hr := State.hasRaised_of_view (s := s) (t := m) rfl (s.returnNotices k ups)
    simp only [State.noticeView, Prod.mk.injEq] at hv
    obtain ⟨-, v1, v2, v3⟩ := hv
    rw [State.HasRaised, v1, v2, v3]
    exact hr

/-- SWEEP_RETURNED where nothing earlier stands due. -/
theorem sweepReturned_handed {s : State} {k : Nat} {ups : List UpHalf} (h : s.owed.returned = some { sweep := k, ups := ups })
    (hs : s.SweepSettled) (hl : s.seats.length = 200) :
    ∃ t : State, exec .sweepReturned s = .next t ∧ t.sansNotices = (s.handed k ups).closePresentation.sansNotices ∧
      s.HasRaised t (s.returnNotices k ups) := by
  have hclose : ∀ u : State, u.closePresentation.sansNotices = u.sansNotices.closePresentation ∧
      u.closePresentation.noticeView = u.noticeView := by
    intro u
    unfold State.closePresentation
    rw [show u.sansNotices.owed = u.owed from rfl]
    split <;> exact ⟨rfl, rfl⟩
  obtain ⟨w, hw, hm, hr⟩ := State.takeReturn_handed h hs hl
  refine ⟨w.closePresentation, by rw [exec_sweepReturned, hw], by rw [(hclose w).1, hm, (hclose _).1], ?_⟩
  have hv := (hclose w).2
  simp only [State.noticeView, Prod.mk.injEq] at hv
  obtain ⟨-, v1, v2, v3⟩ := hv
  rw [State.HasRaised, v1, v2, v3]
  exact hr

/-- The close of a presentation reaches its slots and the rotation pointer alone. -/
theorem State.closePresentation_keeps (u : State) :
    u.closePresentation.trunk = u.trunk ∧ u.closePresentation.lostRun = u.lostRun ∧ u.closePresentation.seats = u.seats ∧
      u.closePresentation.owed.returned = u.owed.returned ∧ u.closePresentation.owed.losses = u.owed.losses ∧
      u.closePresentation.owed.audit = u.owed.audit := by
  unfold State.closePresentation
  split <;> exact ⟨rfl, rfl, rfl, rfl, rfl, rfl⟩

theorem State.seat_handed (s : State) (k : Nat) (ups : List UpHalf) {n : Nat} (h1 : 1 ≤ n) (h2 : n ≤ 200) :
    (s.handed k ups).closePresentation.seat n = (s.seat n).swept s.settings (upOf ups n) := by
  rw [State.seat_congr (State.closePresentation_keeps _).2.2.1]
  obtain ⟨j, rfl⟩ : ∃ j, n = j + 1 := ⟨n - 1, by omega⟩
  have hj : j < 200 := by omega
  simp [State.seat, State.handed, seatNumbers, Config.seatCount, List.getD_eq_getElem?_getD, hj, Nat.add_comm]

/-- Settles O17: what stands due taken first, then the seats as the record leaves them (`Seat.swept`). -/
theorem sweepReturnedFindsSeats : Obligations.SweepReturnedFindsSeats := by
  refine ⟨sweepReturned_takesDue, fun s k ups h hs hl => ?_⟩
  obtain ⟨t, ht, hm, hr⟩ := sweepReturned_handed h hs hl
  obtain ⟨c1, c2, c3, c4, c5, -⟩ := (s.handed k ups).closePresentation_keeps
  have hseat : ∀ n, 1 ≤ n → n ≤ 200 → t.seat n = (s.seat n).swept s.settings (upOf ups n) := fun n h1 h2 =>
    (congrArg (fun u : State => u.seat n) hm : _).trans (s.seat_handed k ups h1 h2)
  have hloss : t.owed.losses = s.dueLosses ups := (congrArg (fun u : State => u.owed.losses) hm : _).trans c5
  refine ⟨t, ht, (congrArg (fun u : State => u.trunk) hm : _).trans c1, (congrArg (fun u : State => u.lostRun) hm : _).trans c2,
    (congrArg (fun u : State => u.owed.returned) hm : _).trans c4, hr, fun n h1 h2 => ?_, ?_⟩
  · have hmem : n ∈ t.owed.losses ↔ (s.seat n).isDueLost s.settings.presenceTimeout (upOf ups n) = true := by
      rw [hloss, State.dueLosses, List.mem_filter]
      exact ⟨fun h => h.2, fun h => ⟨mem_seatNumbers.2 ⟨h1, h2⟩, h⟩⟩
    rw [hseat n h1 h2, hmem]
    refine ⟨fun ha => ?_, fun ha hp => ?_, fun ha hp => ⟨?_, fun hlt => ?_, fun hge => ?_⟩⟩
    · simp [Seat.swept, Seat.answered, Seat.isDueLost, ha]
    · simp [Seat.swept, Seat.isDueLost, ha, hp]
    · cases hd : (s.seat n).isDueLost s.settings.presenceTimeout (upOf ups n) <;> simp [Seat.swept, ha, hp, hd]
    · simp [Seat.swept, Seat.isDueLost, ha, hp, Nat.not_le.2 hlt]
    · simp [Seat.swept, Seat.isDueLost, ha, hp, hge]
  · rw [hloss, State.dueLosses]
    refine List.filter_congr fun n _ => ?_
    rw [Seat.isDueLost, Bool.and_comm (s.seat n).present]

/-! ### The edges of the keys (R38, R46, R51) -/

/-- R38: a level makes an edge of a key exactly when it is accepted. -/
theorem KeyState.filter_edge (k : KeyState) (depth : Nat) (level : Bool) :
    (k.filter depth level).2 = if k.Accepts depth level then some level else none := by
  unfold KeyState.filter KeyState.Accepts
  by_cases hl : level = k.held
  · simp [hl]
  · by_cases hd : k.agree + 1 < depth
    · simp [hl, hd, Nat.not_le.2 hd]
    · simp [hl, hd, Nat.not_lt.1 hd]

theorem UpHalf.edge_eq (u : UpHalf) (depth : Nat) (k : KeyState) (level : Bool) :
    u.edge depth k level = if u.answered ∧ k.Accepts depth level then some level else none := by
  rw [UpHalf.edge, KeyState.filter_edge]
  by_cases ha : u.answered <;> simp [ha]

theorem edge_iff (p : Prop) [Decidable p] (level : Bool) :
    ((if p then some level else none) = some false ↔ p ∧ level = false) ∧
      ((if p then some level else none) = some true ↔ p ∧ level = true) := by
  by_cases hp : p <;> simp [hp]

/-- R51: the material of a seat's actions, before its entry and after it. -/
theorem State.eventsBetween_eq {s t : State} {n : Nat} {u : UpHalf} (h : t.seat n = (s.seat n).swept s.settings u) :
    eventsBetween s t n u = (s.seat n).events s.settings u := by
  have talk : ∀ p : Prop, ∀ [Decidable p], ((if p then some u.talk else none).map KeyEvent.talk).toList =
      if p then [.talk u.talk] else [] := by
    intro p _
    by_cases hp : p <;> simp [hp]
  unfold eventsBetween Seat.events
  rw [h]
  simp only [UpHalf.edge_eq, edge_iff, talk, and_assoc]

/-- R46: the armed mark after an entry. -/
theorem Seat.armed_swept (t : Seat) (m : Settings) (u : UpHalf) :
    (t.swept m u).armed = if u.answered ∧ t.keys.priority.Accepts m.filterDepth u.priority
      then u.priority && t.config.enabled && t.config.cls == .chair && !t.flagged else t.armed := by
  unfold Seat.swept
  by_cases ha : u.answered
  · simp only [ha, if_true, true_and, Seat.answered, KeyState.filter_edge]
    split
    · cases u.priority <;> simp [Seat.armedAfter]
    · rfl
  · simp only [ha, Bool.false_eq_true, if_false, false_and]
    split <;> rfl

theorem Seat.swept_keeps (t : Seat) (m : Settings) (u : UpHalf) :
    t.swept m u = { t with present := (t.swept m u).present, silence := (t.swept m u).silence, keys := (t.swept m u).keys,
                           armed := (t.swept m u).armed } := by
  unfold Seat.swept
  split
  · rfl
  · split <;> rfl

/-! ### The presentation of a record (R51, R79) -/

theorem rotationOrder_eq {p : Nat} (h1 : 1 ≤ p) (h2 : p ≤ 200) :
    rotationOrder p = seatNumbers.drop (p - 1) ++ seatNumbers.take (p - 1) := by
  refine List.ext_getElem (by simp [rotationOrder, seatNumbers, Config.seatCount]; omega) fun i hi hj => ?_
  have hi' : i < 200 := by simpa [rotationOrder] using hi
  simp only [rotationOrder, List.getElem_map, List.getElem_range, List.getElem_append, seatNumbers, Config.seatCount,
    List.length_drop, List.length_range', List.getElem_drop, List.getElem_take, List.getElem_range']
  split <;> omega

theorem State.slotsOf_eq {s t : State} (h1 : 1 ≤ s.rotation) (h2 : s.rotation ≤ 200) (ups : List UpHalf)
    (h : ∀ n, 1 ≤ n → n ≤ 200 → t.seat n = (s.seat n).swept s.settings (upOf ups n)) :
    s.slotsOf ups = (rotationOrder s.rotation).flatMap fun n =>
      (eventsBetween s t n (upOf ups n)).map fun e => ({ seat := n, event := e } : KeySlot) := by
  have hmem : ∀ n ∈ rotationOrder s.rotation, 1 ≤ n ∧ n ≤ 200 := by
    intro n hn
    obtain ⟨i, -, rfl⟩ := List.mem_map.1 hn
    omega
  rw [State.slotsOf, rotationSlots, ← List.map_drop, ← List.map_take, ← List.map_append, ← rotationOrder_eq h1 h2,
    List.flatMap_def]
  refine congrArg List.flatten (List.map_congr_left fun n hn => ?_)
  obtain ⟨hn1, hn2⟩ := hmem n hn
  rw [State.eventsBetween_eq (h n hn1 hn2)]

/-- A state without what a return reaches. -/
def State.sansReturn (s : State) : State :=
  { s.sansNotices with
    trunk := .down, lostRun := 0, seats := [], rotation := 1,
    owed := { s.owed with returned := none, actions := none, losses := [], audit := none } }

theorem State.sansReturn_eq {s t : State} (h : t.sansReturn = s.sansReturn) (hr : t.owed.returned = none) :
    t = { s with trunk := t.trunk, lostRun := t.lostRun, seats := t.seats, rotation := t.rotation, notices := t.notices,
                 overrun := t.overrun, lostCount := t.lostCount,
                 owed := { s.owed with returned := none, actions := t.owed.actions, losses := t.owed.losses,
                                       audit := t.owed.audit } } := by
  have ho : t.owed = { s.owed with returned := none, actions := t.owed.actions, losses := t.owed.losses, audit := t.owed.audit } := by
    have h1 : t.sansReturn.owed = s.sansReturn.owed := congrArg State.owed h
    simp only [State.sansReturn, Owed.mk.injEq] at h1
    cases ht : t.owed
    simp_all
  cases s; cases t
  simp only [State.sansReturn, State.sansNotices, State.mk.injEq] at h ho ⊢
  simp only [h, true_and, and_true]
  exact ho

/-- Settles O19: what a record hands on, read seat by seat. -/
theorem sweepReturnedHandsOn : Obligations.SweepReturnedHandsOn := by
  intro s k ups h hs hl h1 h2
  obtain ⟨t, ht, hm, -⟩ := sweepReturned_handed h hs hl
  obtain ⟨-, -, -, c4, -, c6⟩ := (s.handed k ups).closePresentation_keeps
  have hseat : ∀ n, 1 ≤ n → n ≤ 200 → t.seat n = (s.seat n).swept s.settings (upOf ups n) := fun n h1 h2 =>
    (congrArg (fun u : State => u.seat n) hm : _).trans (s.seat_handed k ups h1 h2)
  have hact : t.owed.actions = (s.handed k ups).closePresentation.owed.actions := (congrArg (fun u : State => u.owed.actions) hm : _)
  have hrot : t.rotation = (s.handed k ups).closePresentation.rotation := (congrArg (fun u : State => u.rotation) hm : _)
  refine ⟨t, s.slotsOf ups, ht, fun n hn1 hn2 => ?_, (congrArg (fun u : State => u.owed.audit) hm : _).trans c6,
    State.slotsOf_eq h1 h2 ups hseat, fun hne => ?_, fun he => ?_, State.sansReturn_eq ?_ ?_⟩
  · rw [hseat n hn1 hn2]
    exact ⟨Seat.armed_swept _ _ _, Seat.swept_keeps _ _ _⟩
  · rw [hact, hrot, State.closePresentation]
    cases hsl : s.slotsOf ups with
    | nil => exact absurd hsl hne
    | cons x rest => simp [State.handed, hsl]
  · rw [hact, hrot, State.closePresentation]
    simp [State.handed, he, State.endPresentation, State.setOwed, nextSeat, Config.seatCount]
  · have e : (s.handed k ups).closePresentation.sansReturn = s.sansReturn := by
      unfold State.closePresentation
      split <;> rfl
    exact (congrArg State.sansReturn hm : _).trans e
  · exact (congrArg (fun u : State => u.owed.returned) hm : _).trans c4

end Sys2Proof.Machine
end

section
/-! ## The loss of a sweep and the trunk break (R10 to R12, R33, R98) -/

namespace Sys2Proof.Machine

/-! ### Waiting entries removed one after another (R76) -/

theorem State.noticeView_congr {s t : State} (h : t.noticeView = s.noticeView) (l : List Notice) :
    (t.raiseAll l).noticeView = (s.raiseAll l).noticeView := by
  induction l generalizing s t with
  | nil => exact h
  | cons x l ih => exact ih (State.noticeView_raise h x)

theorem State.noticeView_updSeat (s : State) (n : Nat) (f : Seat → Seat) : (s.updSeat n f).noticeView = s.noticeView := by
  cases n <;> rfl

theorem State.removeWaiting_notices (s : State) (n : Nat) (r : Reason) :
    (s.removeWaiting n r).noticeView = (s.raise (.dequeued n r)).noticeView :=
  State.noticeView_raise (s := s) (t := (s.withWaiting (s.waiting.filter fun e => e.seat != n)).setPlace n .idle none)
    (State.noticeView_updSeat _ n _) _

/-- The list, the seats and the notices after the removal of every waiting entry. -/
theorem State.clearWaiting_effect (s : State) (r : Reason) (l : List WaitEntry) (t : State)
    (ht : t = l.foldl (fun s e => s.removeWaiting e.seat r) s) :
    (∀ n, 1 ≤ n → n ≤ s.seats.length →
        t.seat n = if n ∈ l.map WaitEntry.seat then { s.seat n with place := .idle, bound := none } else s.seat n) ∧
      t.waiting = (s.waiting.filter fun e => e.seat ∉ l.map WaitEntry.seat) ∧ t.speakers = s.speakers ∧ t.floor = s.floor ∧
      t.channels = s.channels ∧ t.owed = s.owed ∧
      t.noticeView = (s.raiseAll (l.map fun e => .dequeued e.seat r)).noticeView := by
  induction l generalizing s with
  | nil => subst ht; simp
  | cons e l ih =>
    obtain ⟨w1, w2, w3, w4, w5⟩ := s.removeWaiting_lists e.seat r
    obtain ⟨h1, h2, h3, h4, h5, h6, h7⟩ := ih (s.removeWaiting e.seat r) ht
    have hlen : (s.removeWaiting e.seat r).seats.length = s.seats.length := State.frozen_length (by simp)
    refine ⟨fun n hn1 hn2 => ?_, ?_, h3.trans w2, h4.trans w3, h5.trans w4, h6.trans w5, ?_⟩
    · rw [h1 n hn1 (hlen ▸ hn2)]
      by_cases hn : n = e.seat
      · subst hn
        rw [State.removeWaiting_seat_same s r hn1 hn2]
        simp
      · simp [State.removeWaiting_seat_ne s r hn, hn]
    · rw [h2, w1, List.filter_filter]
      refine List.filter_congr fun x _ => ?_
      by_cases hx : x.seat = e.seat <;> simp [hx]
    · rw [h7, List.map_cons, State.raiseAll_cons]
      exact State.noticeView_congr (s.removeWaiting_notices e.seat r) _

/-! ### Grants ended one after another, without fill (R107) -/

/-- R107: the record of a channel released. -/
def Channel.released (x : Channel) : Channel :=
  { state := .releasing, seat := none, remaining := none, warned := false, held := x.held }

/-- R48, R107: a seat whose grant has ended, under the lockout `k`. -/
def Seat.ended (t : Seat) (k : Nat) : Seat := { t with place := .idle, bound := none, lockout := k }

theorem State.release_notices (s : State) (c : Chan) (n : Nat) (r : Reason) :
    (s.release c n r).noticeView = (s.raise (s.endedNotice r { chan := c, seat := n })).noticeView := by
  have hsp : ∀ u : State, (u.removeSpeaker c).noticeView = u.noticeView := by
    intro u; unfold State.removeSpeaker; split <;> rfl
  have hl : ∀ u : State, (u.loadLockout n).noticeView = u.noticeView := fun u => u.noticeView_updSeat n _
  unfold State.release
  refine State.noticeView_raise ?_ _
  split
  · rw [hsp]; exact State.noticeView_updSeat _ n _
  · rw [hl, hsp]; exact State.noticeView_updSeat _ n _

theorem State.release_owed (s : State) (c : Chan) (n : Nat) {r : Reason} (hr : r ≠ .withdrawn) :
    (s.release c n r).owed.lockouts = (s.owed.lockouts.filter fun m => m != n) ∧
      (s.release c n r).owed.timers = s.owed.timers.filter fun d => d != c := by
  unfold State.release
  simp [hr, State.loadLockout, State.stopTimer, State.setOwed, State.setChan]

/-- The End of every grant of a list. -/
def State.releaseList (r : Reason) (l : List Speaker) (s : State) : State := l.foldl (fun s e => s.release e.chan e.seat r) s

theorem State.frozen_releaseList (r : Reason) (l : List Speaker) (s : State) : (s.releaseList r l).frozen = s.frozen :=
  State.frozen_foldl (fun (s : State) (e : Speaker) => s.release e.chan e.seat r) (fun s e => s.frozen_release e.chan e.seat r) l s

theorem State.releaseList_cons (r : Reason) (e : Speaker) (l : List Speaker) (s : State) :
    s.releaseList r (e :: l) = (s.release e.chan e.seat r).releaseList r l := rfl

/-- Every channel of the list is released. -/
theorem State.releaseList_chan (r : Reason) (l : List Speaker) (s : State) (c : Chan) :
    (s.releaseList r l).chan c = if c ∈ l.map Speaker.chan then (s.chan c).released else s.chan c := by
  induction l generalizing s with
  | nil => rfl
  | cons e l ih =>
    rw [State.releaseList_cons, ih]
    by_cases hc : c = e.chan
    · subst hc
      rw [State.release_chan_same]
      simp [Channel.released]
    · simp [State.release_chan_ne s e.seat r hc, hc]

/-- Every seat of the list is off the floor, under the lockout in force. -/
theorem State.releaseList_seat {r : Reason} (hr : r ≠ .withdrawn) (l : List Speaker) (s : State) {n : Nat} (hn1 : 1 ≤ n)
    (hn2 : n ≤ s.seats.length) :
    (s.releaseList r l).seat n = if n ∈ l.map Speaker.seat then (s.seat n).ended s.settings.lockout else s.seat n := by
  induction l generalizing s with
  | nil => rfl
  | cons e l ih =>
    have hz := s.frozen_release e.chan e.seat r
    have hset : (s.release e.chan e.seat r).settings = s.settings := (congrArg (fun u : State => u.settings) hz : _)
    rw [State.releaseList_cons, ih _ ((State.frozen_length hz).symm ▸ hn2), hset]
    by_cases hn : n = e.seat
    · subst hn
      rw [State.release_seat_same s e.chan r hn1 hn2]
      simp [Seat.ended, hr]
    · simp [State.release_seat_ne s e.chan r hn, hn]

/-- The lists and the floor after the End of every grant of a list. -/
theorem State.releaseList_lists (r : Reason) (l : List Speaker) (s : State) :
    (s.releaseList r l).waiting = s.waiting ∧ (s.releaseList r l).floor = s.floor ∧
      (s.releaseList r l).speakers = (s.speakers.filter fun e => ∀ x ∈ l, x.chan.isOrdinary = true → e.chan ≠ x.chan) := by
  induction l generalizing s with
  | nil => simp [State.releaseList]
  | cons e l ih =>
    obtain ⟨h1, h2, h3⟩ := ih (s.release e.chan e.seat r)
    obtain ⟨w1, w2, w3⟩ := s.release_lists e.chan e.seat r
    rw [State.releaseList_cons]
    refine ⟨h1.trans w1, h2.trans w3, ?_⟩
    rw [h3, w2]
    by_cases ho : e.chan.isOrdinary = true
    · rw [if_pos ho, List.filter_filter]
      refine List.filter_congr fun x _ => ?_
      by_cases hx : x.chan = e.chan <;> simp [hx, ho]
    · rw [if_neg ho]
      refine List.filter_congr fun x _ => ?_
      simp [ho]

/-- What an interval start still owed the ended grants has fallen away. -/
theorem State.releaseList_owed {r : Reason} (hr : r ≠ .withdrawn) (l : List Speaker) (s : State) :
    (s.releaseList r l).owed.lockouts = (s.owed.lockouts.filter fun n => n ∉ l.map Speaker.seat) ∧
      (s.releaseList r l).owed.timers = (s.owed.timers.filter fun c => c ∉ l.map Speaker.chan) := by
  induction l generalizing s with
  | nil => simp [State.releaseList]
  | cons e l ih =>
    obtain ⟨h1, h2⟩ := ih (s.release e.chan e.seat r)
    obtain ⟨o1, o2⟩ := s.release_owed e.chan e.seat hr
    rw [State.releaseList_cons, h1, h2, o1, o2, List.filter_filter, List.filter_filter]
    refine ⟨List.filter_congr fun x _ => ?_, List.filter_congr fun x _ => ?_⟩
    · by_cases hx : x = e.seat <;> simp [hx]
    · by_cases hx : x = e.chan <;> simp [hx]

/-- R107, R108: the notices of the Ends, oldest first. -/
theorem State.releaseList_notices (r : Reason) (l : List Speaker) (s : State) :
    (s.releaseList r l).noticeView = (s.raiseAll (l.map (s.endedNotice r))).noticeView := by
  induction l generalizing s with
  | nil => rfl
  | cons e l ih =>
    have hended : ∀ x, (s.release e.chan e.seat r).endedNotice r x = s.endedNotice r x := by
      intro x
      have hheld : ((s.release e.chan e.seat r).chan x.chan).held = (s.chan x.chan).held := by
        by_cases hx : x.chan = e.chan
        · rw [hx, State.release_chan_same]
        · rw [State.release_chan_ne s e.seat r hx]
      rw [State.endedNotice, hheld]; rfl
    rw [State.releaseList_cons, ih, List.map_congr_left fun x _ => hended x, List.map_cons, State.raiseAll_cons]
    exact State.noticeView_congr (s.release_notices e.chan e.seat r) _

/-! ### The floor after a trunk break (R98) -/

/-- Channel P with its holder, if it is LIVE. -/
def State.holderEntry (s : State) : List Speaker :=
  match (s.chan .p).state, (s.chan .p).seat with
  | .live, some n => [{ chan := .p, seat := n }]
  | _, _ => []

/-- Every grant: the speaker list, then channel P. -/
def State.grants (s : State) : List Speaker := s.speakers ++ s.holderEntry

/-- With nobody waiting, the Ends of the speakers bring no fill. -/
theorem State.endSpeakers_of_empty {s : State} (h : s.waiting = []) (r : Reason) : s.endSpeakers r = s.releaseList r s.speakers := by
  have key : ∀ (l : List Speaker) (s : State), s.waiting = [] →
      l.foldl (fun s e => s.endOrdinary e.chan e.seat r) s = s.releaseList r l := by
    intro l
    induction l with
    | nil => exact fun _ _ => rfl
    | cons e l ih =>
      intro s h
      have hw : (s.release e.chan e.seat r).waiting = [] := (s.release_lists e.chan e.seat r).1.trans h
      have he : s.endOrdinary e.chan e.seat r = s.release e.chan e.seat r := by
        rw [State.endOrdinary, State.fill_of_empty _ hw]
      rw [List.foldl_cons, he, ih _ hw]; rfl
  exact key _ s h

/-- R131: with both lists empty, the end of an intervention opens the floor and raises RESUMED, and no more. -/
theorem State.endIntervention_of_empty {s : State} (hw : s.waiting = []) (hs : s.speakers = []) (n : Nat) :
    s.endIntervention n = (s.withFloor .opened).raiseAll (match s.active with
      | none => []
      | some c => [.resumed n c.priorityEnd]) := by
  have e : s.endIntervention n = (match s.active with
      | none => s.withFloor .opened
      | some c => (((s.withFloor .opened).raise (.resumed n c.priorityEnd)).applyPriorityEnd c.priorityEnd).fill) := rfl
  rw [e]
  cases s.active with
  | none => rfl
  | some c =>
    let u := (s.withFloor .opened).raise (.resumed n c.priorityEnd)
    have huw : u.waiting = [] := (State.raise_waiting _ _).trans hw
    have hus : u.speakers = [] := (State.raise_speakers _ _).trans hs
    have hp : u.applyPriorityEnd c.priorityEnd = u := by
      cases c.priorityEnd with
      | resume => rfl
      | clear => rw [State.applyPriorityEnd, State.endSpeakers_of_empty huw, hus]; rfl
    show (u.applyPriorityEnd c.priorityEnd).fill = u
    rw [hp, State.fill_of_empty u huw]

/-- R123: channel P has a holder, or there is none. -/
theorem State.holder_cases (s : State) :
    (s.holderEntry = [] ∧ s.holderResumed = [] ∧ ∀ (u : State) (r : Reason), u.chan .p = s.chan .p → u.endHolder r = u) ∨
    ∃ n, (s.chan .p).state = .live ∧ (s.chan .p).seat = some n ∧ s.holderEntry = [{ chan := .p, seat := n }] ∧
      s.holderResumed = (match s.active with | none => [] | some c => [.resumed n c.priorityEnd]) ∧
      ∀ (u : State) (r : Reason), u.chan .p = s.chan .p → u.endHolder r = u.endPriority n r := by
  unfold State.holderEntry State.holderResumed State.endHolder
  by_cases h : (s.chan .p).state = .live ∧ ∃ n, (s.chan .p).seat = some n
  · obtain ⟨hst, n, hse⟩ := h
    refine .inr ⟨n, hst, hse, by rw [hst, hse], ?_, fun u r hu => by rw [hu, hst, hse]⟩
    rw [hst, hse]
    cases s.active <;> rfl
  · left
    refine ⟨?_, ?_, fun u r hu => ?_⟩
    · split
      · next h1 h2 => exact absurd ⟨h1, _, h2⟩ h
      · rfl
    · split
      · next h1 h2 _ => exact absurd ⟨h1, _, h2⟩ h
      · rfl
    · rw [hu]
      split
      · next h1 h2 => exact absurd ⟨h1, _, h2⟩ h
      · rfl

/-- R98: with nobody waiting any more, every grant ends, a HELD floor opens, and RESUMED is raised. -/
theorem State.breakFloor_eq {s : State} (hord : ∀ e ∈ s.speakers, e.chan.isOrdinary = true)
    (hw : (s.clearWaiting .trunkDown).waiting = []) :
    s.breakFloor = (((s.clearWaiting .trunkDown).releaseList .trunkDown s.grants).withFloor
      (if s.holderEntry = [] then s.floor else .opened)).raiseAll s.holderResumed := by
  obtain ⟨-, -, hsp, hfl, hch, -, -⟩ := s.clearWaiting_effect .trunkDown s.waiting _ rfl
  have hz : (s.clearWaiting .trunkDown).frozen = s.frozen := State.frozen_clearWaiting _ _
  rw [State.breakFloor, State.endSpeakers_of_empty hw]
  change (s.clearWaiting .trunkDown).speakers = _ at hsp
  change (s.clearWaiting .trunkDown).floor = _ at hfl
  change (s.clearWaiting .trunkDown).channels = _ at hch
  rw [hsp]
  generalize s.clearWaiting .trunkDown = u at hw hsp hfl hch hz ⊢
  have hp : (u.releaseList .trunkDown s.speakers).chan .p = s.chan .p := by
    rw [State.releaseList_chan, if_neg]
    · rw [State.chan, hch]; rfl
    · intro hm
      obtain ⟨e, he, hc⟩ := List.mem_map.1 hm
      exact absurd (hc ▸ hord e he) (by decide)
  obtain ⟨h1, h2, h3⟩ | ⟨n, -, -, h1, h2, h3⟩ := s.holder_cases
  · rw [h3 _ _ hp, State.grants, h1, h2, List.append_nil, if_pos rfl, ← hfl,
      ← (State.releaseList_lists .trunkDown s.speakers u).2.1]
    rfl
  · have hrel : (u.releaseList .trunkDown s.speakers).release .p n .trunkDown = u.releaseList .trunkDown s.grants := by
      rw [State.grants, h1, State.releaseList, State.releaseList, List.foldl_append]; rfl
    obtain ⟨e1, -, e3⟩ := State.releaseList_lists .trunkDown s.grants u
    have hsp' : (u.releaseList .trunkDown s.grants).speakers = [] := by
      rw [e3, hsp, List.filter_eq_nil_iff]
      intro e he
      have : e ∈ s.grants := List.mem_append_left _ he
      simpa using ⟨e, this, hord e he, rfl⟩
    have ha : (u.releaseList .trunkDown s.grants).active = s.active :=
      State.active_of_frozen ((State.frozen_releaseList _ _ _).trans hz)
    rw [h3 _ _ hp, State.endPriority, hrel, State.endIntervention_of_empty (e1.trans hw) hsp', ha, h2, h1, if_neg (by simp)]

/-! ### What of it the agreement of the floor shows (R72, R73, R77, R123) -/

theorem State.holderEnded_eq (s : State) (r : Reason) : s.holderEnded r = s.holderEntry.map (s.endedNotice r) := by
  unfold State.holderEnded State.holderEntry
  cases (s.chan .p).state <;> cases (s.chan .p).seat <;> rfl

theorem State.clearWaiting_waiting (s : State) (r : Reason) : (s.clearWaiting r).waiting = [] := by
  rw [State.clearWaiting, (s.clearWaiting_effect r s.waiting _ rfl).2.1, List.filter_eq_nil_iff]
  intro e he
  simpa using ⟨e, he, rfl⟩

section
variable {s : State} (h : s.FloorAgrees)
include h

/-- The grants are the LIVE channels with their seats. -/
theorem State.FloorAgrees.mem_grants (e : Speaker) :
    e ∈ s.grants ↔ (s.chan e.chan).state = .live ∧ (s.chan e.chan).seat = some e.seat := by
  obtain ⟨c, n⟩ := e
  have range : (s.chan c).state = .live → (s.chan c).seat = some n → n ∈ seatNumbers := by
    intro h1 h2
    obtain ⟨m, hm, he⟩ := (h.channels c (mem_allChans c)).1 h1
    rw [h2] at he
    exact Option.some.inj he ▸ hm
  rw [State.grants, List.mem_append]
  by_cases ho : c.isOrdinary = true
  · have hp : { chan := c, seat := n } ∉ s.holderEntry := by
      intro hm
      obtain ⟨h1, -, -⟩ | ⟨m, -, -, h1, -, -⟩ := s.holder_cases
      · simp [h1] at hm
      · rw [h1, List.mem_singleton, Speaker.mk.injEq] at hm
        exact absurd (hm.1 ▸ ho) (by decide)
    have hc : c ∈ ordinaryChans := mem_ordinaryChans.2 ho
    constructor
    · rintro (hm | hm)
      · exact (h.speakers c hc n (h.speakersOnce.2 _ hm).2).1 hm
      · exact absurd hm hp
    · exact fun hl => .inl ((h.speakers c hc n (range hl.1 hl.2)).2 hl)
  · have hc : c = .p := by cases c <;> simp_all [Chan.isOrdinary]
    subst hc
    have hs : ({ chan := .p, seat := n } : Speaker) ∉ s.speakers := fun hm =>
      ho (mem_ordinaryChans.1 (h.speakersOnce.2 _ hm).1)
    constructor
    · rintro (hm | hm)
      · exact absurd hm hs
      · obtain ⟨h1, -, -⟩ | ⟨m, e1, e2, h1, -, -⟩ := s.holder_cases
        · simp [h1] at hm
        · rw [h1, List.mem_singleton, Speaker.mk.injEq] at hm
          exact ⟨e1, hm.2 ▸ e2⟩
    · intro hl
      right
      obtain ⟨h1, -, -⟩ | ⟨m, e1, e2, h1, -, -⟩ := s.holder_cases
      · simp only [State.holderEntry, hl] at h1
        cases h1
      · rw [h1, List.mem_singleton, Speaker.mk.injEq]
        exact ⟨rfl, Option.some.inj (hl.2.symm.trans e2)⟩

theorem State.FloorAgrees.mem_grants_chan (c : Chan) : c ∈ s.grants.map Speaker.chan ↔ (s.chan c).state = .live := by
  constructor
  · intro hm
    obtain ⟨e, he, rfl⟩ := List.mem_map.1 hm
    exact ((h.mem_grants e).1 he).1
  · intro hl
    obtain ⟨n, -, hn⟩ := (h.channels c (mem_allChans c)).1 hl
    exact List.mem_map.2 ⟨{ chan := c, seat := n }, (h.mem_grants _).2 ⟨hl, hn⟩, rfl⟩

/-- No seat outside the table is on the floor. -/
theorem State.FloorAgrees.seat_range {n : Nat} (hn : n ∉ seatNumbers) : s.seat n = Seat.reset :=
  State.seat_out s (by rw [h.seats]; rw [mem_seatNumbers] at hn; omega)

theorem State.FloorAgrees.mem_grants_seat (n : Nat) : n ∈ s.grants.map Speaker.seat ↔ (s.seat n).place = .live := by
  constructor
  · intro hm
    obtain ⟨e, he, rfl⟩ := List.mem_map.1 hm
    obtain ⟨h1, h2⟩ := (h.mem_grants e).1 he
    obtain ⟨m, hm, hs⟩ := (h.channels e.chan (mem_allChans _)).1 h1
    obtain rfl : e.seat = m := Option.some.inj (h2.symm.trans hs)
    obtain ⟨p1, -, p3⟩ := h.places e.seat hm
    rw [p1, (p3 e.chan (mem_allChans _)).2 ⟨h1, h2⟩]
    simp
  · intro hl
    have hn : n ∈ seatNumbers := by
      by_contra hn
      rw [h.seat_range hn] at hl
      cases hl
    obtain ⟨p1, -, p3⟩ := h.places n hn
    obtain ⟨c, hc⟩ := Option.ne_none_iff_exists'.1 (p1.1 hl)
    exact List.mem_map.2 ⟨{ chan := c, seat := n }, (h.mem_grants _).2 ((p3 c (mem_allChans c)).1 hc), rfl⟩

theorem State.FloorAgrees.holderEntry_iff : s.holderEntry = [] ↔ s.floor ≠ .held := by
  have key : s.holderEntry = [] ↔ (s.chan .p).state ≠ .live := by
    constructor
    · intro he hl
      obtain ⟨n, -, hn⟩ := (h.channels .p (mem_allChans _)).1 hl
      simp [State.holderEntry, hl, hn] at he
    · intro hl
      obtain ⟨h1, -, -⟩ | ⟨m, e1, -⟩ := s.holder_cases
      · exact h1
      · exact absurd e1 hl
  rw [key, Ne, Ne, h.held]

/-- R98: the floor after a trunk break. -/
theorem State.FloorAgrees.breakFloor_effect :
    s.breakFloor.noticeView = (s.raiseAll (s.waiting.map (fun e => .dequeued e.seat .trunkDown) ++
        s.speakers.map (s.endedNotice .trunkDown) ++ s.holderEnded .trunkDown ++ s.holderResumed)).noticeView ∧
      s.breakFloor.waiting = [] ∧ s.breakFloor.speakers = [] ∧ s.breakFloor.floor = (if s.floor = .held then .opened else s.floor) ∧
      (∀ c, s.breakFloor.chan c = if (s.chan c).state = .live then (s.chan c).released else s.chan c) ∧
      (∀ n, s.breakFloor.seat n = { s.seat n with
        place := .idle, bound := none,
        lockout := if (s.seat n).place = .live then s.settings.lockout else (s.seat n).lockout }) ∧
      s.breakFloor.owed.lockouts = (s.owed.lockouts.filter fun n => (s.seat n).place != .live) ∧
      s.breakFloor.owed.timers = (s.owed.timers.filter fun c => (s.chan c).state != .live) := by
  have hord : ∀ e ∈ s.speakers, e.chan.isOrdinary = true := fun e he => mem_ordinaryChans.1 (h.speakersOnce.2 e he).1
  have hlen : s.breakFloor.seats.length = s.seats.length := State.frozen_length s.frozen_breakFloor
  have hw := s.clearWaiting_waiting .trunkDown
  have hzu : (s.clearWaiting .trunkDown).frozen = s.frozen := State.frozen_clearWaiting _ _
  obtain ⟨u1, -, u3, u4, u5, u6, u7⟩ := s.clearWaiting_effect .trunkDown s.waiting (s.clearWaiting .trunkDown) rfl
  have hout : ∀ n, n ∉ seatNumbers → s.breakFloor.seat n = Seat.reset := fun n hn =>
    State.seat_out _ (by rw [hlen, h.seats]; rw [mem_seatNumbers] at hn; omega)
  have heq := State.breakFloor_eq hord hw
  generalize s.breakFloor = t at *
  generalize s.clearWaiting .trunkDown = u at *
  have hchan : ∀ c, u.chan c = s.chan c := fun c => by rw [State.chan, u5]; rfl
  have hended : u.endedNotice .trunkDown = s.endedNotice .trunkDown := by
    funext e
    rw [State.endedNotice, hchan]; rfl
  have hset : u.settings = s.settings := (congrArg (fun v : State => v.settings) hzu : _)
  obtain ⟨l1, l2, l3, l4⟩ := State.raiseAll_lists
    ((u.releaseList .trunkDown s.grants).withFloor (if s.holderEntry = [] then s.floor else .opened)) s.holderResumed
  obtain ⟨r1, r2, r3⟩ := State.releaseList_lists .trunkDown s.grants u
  obtain ⟨o1, o2⟩ := State.releaseList_owed (r := .trunkDown) (by decide) s.grants u
  rw [← heq] at l1 l2 l3 l4
  refine ⟨?_, l1.trans (r1.trans hw), ?_, ?_, fun c => ?_, fun n => ?_, ?_, ?_⟩
  · have hn : ((u.releaseList .trunkDown s.grants).withFloor (if s.holderEntry = [] then s.floor else .opened)).noticeView =
        (s.raiseAll (s.waiting.map (fun e => .dequeued e.seat .trunkDown) ++ s.grants.map (s.endedNotice .trunkDown))).noticeView := by
      rw [State.raiseAll_append, ← hended]
      exact (State.releaseList_notices _ _ _).trans (State.noticeView_congr u7 _)
    rw [heq, State.holderEnded_eq, List.append_assoc (s.waiting.map _), ← List.map_append, State.raiseAll_append _ _ s.holderResumed]
    exact State.noticeView_congr hn _
  · rw [l2]
    refine r3.trans (List.filter_eq_nil_iff.2 fun e he => ?_)
    rw [u3] at he
    have hg : e ∈ s.grants := List.mem_append_left _ he
    simpa using ⟨e, hg, hord e he, rfl⟩
  · rw [l3]
    show (if s.holderEntry = [] then s.floor else .opened) = _
    by_cases hf : s.floor = .held <;> simp [h.holderEntry_iff, hf]
  · rw [heq, State.raiseAll_chan]
    refine (State.releaseList_chan .trunkDown s.grants u c).trans ?_
    simp only [h.mem_grants_chan, hchan]
  · by_cases hn : n ∈ seatNumbers
    · obtain ⟨hn1, hn2⟩ := mem_seatNumbers.1 hn
      have hlu : u.seats.length = 200 := (State.frozen_length hzu).trans h.seats
      rw [heq, State.raiseAll_seat]
      refine (State.releaseList_seat (r := .trunkDown) (by decide) s.grants u hn1 (by omega)).trans ?_
      obtain ⟨p1, p2, -⟩ := h.places n hn
      simp only [h.mem_grants_seat, u1 n hn1 (by rw [h.seats]; exact hn2), ← p2, hset]
      cases hpl : (s.seat n).place with
      | live => simp [Seat.ended]
      | waiting => simp
      | idle =>
        have hb : (s.seat n).bound = none := by
          by_contra hb
          exact absurd (p1.2 hb) (by rw [hpl]; decide)
        generalize s.seat n = x at hpl hb
        cases x
        simp_all
    · rw [hout n hn, h.seat_range hn]; rfl
  · rw [l4]
    refine o1.trans ?_
    rw [u6]
    refine List.filter_congr fun n _ => ?_
    simp only [h.mem_grants_seat]
    cases (s.seat n).place <;> rfl
  · rw [l4]
    refine o2.trans ?_
    rw [u6]
    refine List.filter_congr fun c _ => ?_
    simp only [h.mem_grants_chan]
    cases (s.chan c).state <;> rfl

end

end Sys2Proof.Machine
end

section
/-! ## The loss that breaks the trunk (R10 to R12, R33, R98) -/

namespace Sys2Proof.Machine

/-- The trunk broken by the loss of sweep `k`, before the floor responds; `a` is the sweep still awaited. -/
def State.broken (s : State) (a : Option Nat) (k : Nat) : State :=
  (State.raise { s with trunk := .down, lostRun := 25, discarded := [], awaiting := a, owed := { s.owed with lostSweep := none } }
    (.trunkDown k)).loseAllSeats

theorem State.seat_loseAllSeats (s : State) (n : Nat) : s.loseAllSeats.seat n = (s.seat n).lose := by
  cases n with
  | zero => rfl
  | succ k =>
    simp only [State.loseAllSeats, State.seat, List.getD_eq_getElem?_getD, List.getElem?_map]
    cases s.seats[k]? <;> rfl

theorem State.seat_broken (s : State) (a : Option Nat) (k n : Nat) : (s.broken a k).seat n = (s.seat n).lose := by
  rw [State.broken, State.seat_loseAllSeats, State.seat_raise]; rfl

/-- What the break of the trunk leaves for the floor's response. -/
theorem State.broken_keeps (s : State) (a : Option Nat) (k : Nat) :
    (s.broken a k).channels = s.channels ∧ (s.broken a k).waiting = s.waiting ∧ (s.broken a k).speakers = s.speakers ∧
      (s.broken a k).floor = s.floor ∧ (s.broken a k).agenda = s.agenda ∧ (s.broken a k).settings = s.settings ∧
      (s.broken a k).owed = { s.owed with lostSweep := none } ∧ (s.broken a k).noticeView = (s.raise (.trunkDown k)).noticeView ∧
      (s.broken a k).seats.length = s.seats.length := by
  let m : State := { s with trunk := .down, lostRun := 25, discarded := [], awaiting := a, owed := { s.owed with lostSweep := none } }
  have hlen : (s.broken a k).seats.length = s.seats.length := by
    rw [State.broken, State.loseAllSeats, List.length_map, State.raise_seats]
  exact ⟨m.raise_channels _, m.raise_waiting _, m.raise_speakers _, m.raise_floor _, m.raise_agenda _, m.raise_settings _,
    m.raise_owed _, State.noticeView_raise (s := s) (t := m) rfl _, hlen⟩

theorem State.FloorAgrees.broken {s : State} (h : s.FloorAgrees) (a : Option Nat) (k : Nat) : (s.broken a k).FloorAgrees := by
  obtain ⟨e1, e2, e3, e4, e5, -, -, -, e9⟩ := s.broken_keeps a k
  have hc : ∀ c, (s.broken a k).chan c = s.chan c := fun c => by rw [State.chan, e1]; rfl
  have hp : ∀ n, ((s.broken a k).seat n).place = (s.seat n).place := fun n => by rw [State.seat_broken]; rfl
  have hb : ∀ n, ((s.broken a k).seat n).bound = (s.seat n).bound := fun n => by rw [State.seat_broken]; rfl
  constructor
  · rw [e9]; exact h.seats
  · rw [e5]; exact h.agenda
  · rw [e4, e5]; exact h.closed
  · rw [e4, hc]; exact h.held
  · rw [hc]; exact h.untimed
  · simpa only [State.SeatAgrees, hp, hb, hc, e2] using h.places
  · simpa only [State.ChannelAgrees, hc] using h.channels
  · simpa only [hc, e3] using h.speakers
  · rw [e3]; exact h.speakersOnce
  · rw [e2]; exact h.waitingOnce
  · rw [e2, e3, e4]; exact h.empty

theorem exec_lostSweep (s : State) : exec .lostSweep s = .next s.lostSweepStep := rfl

theorem exec_trunkDown (s : State) : exec .trunkDown s = .next (if s.lossBreaks then s.lostSweepStep else s) := rfl

theorem State.declareLost_of_breaks {s : State} (h : s.lossBreaks = true) (k : Nat) :
    s.declareLost k = (State.raise { s with lostRun := min (s.lostRun + 1) 25, discarded := [], trunk := .down }
      (.trunkDown k)).loseAllSeats.breakFloor := by
  rw [State.declareLost, if_pos h]; rfl

/-- R11: the loss that breaks the trunk, whichever sweep is due to be declared. -/
theorem State.lostSweepStep_of_breaks {s : State} (hb : s.lossBreaks = true) {k : Nat}
    (h : s.owed.lostSweep = some k ∨ (s.owed.lostSweep = none ∧ s.awaiting = some k ∧ s.frame = 96)) :
    s.lostSweepStep = (s.broken (if s.owed.lostSweep = none then none else s.awaiting) k).breakFloor := by
  have hrun : min (s.lostRun + 1) 25 = 25 := by
    have := ((s.lossBreaks_iff).1 hb).2
    omega
  obtain h1 | ⟨h1, h2, h3⟩ := h
  · rw [State.lostSweepStep, h1, State.declareOwedLoss, h1, if_neg (by simp)]
    simp only
    rw [State.declareLost_of_breaks (s := s.setOwed { s.owed with lostSweep := none }) hb]
    show (State.raise
      { s with lostRun := min (s.lostRun + 1) 25, discarded := [], trunk := .down, owed := { s.owed with lostSweep := none } }
      (.trunkDown k)).loseAllSeats.breakFloor = _
    rw [hrun]; rfl
  · rw [State.lostSweepStep, h1, State.declareAwaitedLoss, h2, if_pos rfl]
    simp only
    rw [if_pos (show s.frame = Config.framesPerInterval from h3), State.declareLost_of_breaks (s := { s with awaiting := none }) hb]
    show (State.raise { s with awaiting := none, lostRun := min (s.lostRun + 1) 25, discarded := [], trunk := .down }
      (.trunkDown k)).loseAllSeats.breakFloor = _
    have ho : ({ s.owed with lostSweep := none } : Owed) = s.owed := by rw [← h1]
    rw [hrun, State.broken, ho]

/-- A state without what a trunk break reaches. -/
def State.sansBreak (s : State) : State :=
  { s.frozen with
    trunk := .down, lostRun := 0, awaiting := none, discarded := [], seats := [],
    owed := { s.frozen.owed with lostSweep := none } }

theorem State.sansBreak_of_frozen {s t : State} (h : t.frozen = s.frozen) : t.sansBreak = s.sansBreak := by
  unfold State.sansBreak; rw [h]

theorem State.sansBreak_eq {s t : State} (h : t.sansBreak = s.sansBreak) (hl : t.owed.lostSweep = none) :
    t = { s with trunk := t.trunk, lostRun := t.lostRun, awaiting := t.awaiting, discarded := t.discarded, seats := t.seats,
                 waiting := t.waiting, speakers := t.speakers, floor := t.floor, channels := t.channels,
                 notices := t.notices, overrun := t.overrun, lostCount := t.lostCount,
                 owed := { s.owed with lostSweep := none, lockouts := t.owed.lockouts, timers := t.owed.timers } } := by
  have ho : t.owed = { s.owed with lostSweep := none, lockouts := t.owed.lockouts, timers := t.owed.timers } := by
    have h1 : t.sansBreak.owed = s.sansBreak.owed := congrArg State.owed h
    simp only [State.sansBreak, State.frozen, Owed.mk.injEq] at h1
    cases ht : t.owed
    simp_all
  cases s; cases t
  simp only [State.sansBreak, State.frozen, State.mk.injEq] at h ho ⊢
  simp only [h, true_and, and_true]
  exact ho

theorem State.sansBreak_broken (s : State) (a : Option Nat) (k : Nat) : (s.broken a k).sansBreak = s.sansBreak :=
  (State.sansBreak_of_frozen (State.frozen_raise
    { s with trunk := .down, lostRun := 25, discarded := [], awaiting := a, owed := { s.owed with lostSweep := none } }
    (.trunkDown k)) : _)

/-- The third part of O16: the break, and the floor's response to it. -/
theorem trunkBreak_effect {s : State} {k : Nat} (h : s.FloorAgrees) (hu : s.trunk = .up) (hr : 24 ≤ s.lostRun)
    (hk : s.owed.lostSweep = some k ∨ (s.owed.lostSweep = none ∧ s.awaiting = some k ∧ s.frame = 96)) :
    ∃ t, exec .lostSweep s = .next t ∧ exec .trunkDown s = .next t ∧
       t.trunk = .down ∧ t.lostRun = 25 ∧ t.owed.lostSweep = none ∧ t.discarded = [] ∧
       s.HasRaised t (.trunkDown k :: s.waiting.map (fun e => .dequeued e.seat .trunkDown) ++
         s.speakers.map (s.endedNotice .trunkDown) ++ s.holderEnded .trunkDown ++ s.holderResumed) ∧
       t.waiting = [] ∧ t.speakers = [] ∧ t.floor = (if s.floor = .held then .opened else s.floor) ∧
       (∀ c, t.chan c = (if (s.chan c).state = .live then
         { state := .releasing, seat := none, remaining := none, warned := false, held := (s.chan c).held } else s.chan c)) ∧
       (∀ n, t.seat n = { s.seat n with
         present := false, silence := 0, keys := Keys.reset, armed := false, mismatch := 0, pendingSense := none, place := .idle,
         bound := none, lockout := if (s.seat n).place = .live then s.settings.lockout else (s.seat n).lockout }) ∧
       t.owed.lockouts = (s.owed.lockouts.filter fun n => (s.seat n).place != .live) ∧
       t.owed.timers = (s.owed.timers.filter fun c => (s.chan c).state != .live) ∧
       t.awaiting = (if s.owed.lostSweep = none then none else s.awaiting) ∧
       t = { s with trunk := t.trunk, lostRun := t.lostRun, awaiting := t.awaiting, discarded := t.discarded, seats := t.seats,
                    waiting := t.waiting, speakers := t.speakers, floor := t.floor, channels := t.channels,
                    notices := t.notices, overrun := t.overrun, lostCount := t.lostCount,
                    owed := { s.owed with lostSweep := none, lockouts := t.owed.lockouts, timers := t.owed.timers } } := by
  have hb : s.lossBreaks = true := (s.lossBreaks_iff).2 ⟨hu, hr⟩
  have hstep := State.lostSweepStep_of_breaks hb hk
  generalize (if s.owed.lostSweep = none then none else s.awaiting) = a at hstep ⊢
  obtain ⟨e1, e2, e3, e4, e5, e6, e7, e8, -⟩ := s.broken_keeps a k
  have hc : ∀ c, (s.broken a k).chan c = s.chan c := fun c => by rw [State.chan, e1]; rfl
  have hp : ∀ n, ((s.broken a k).seat n).place = (s.seat n).place := fun n => by rw [State.seat_broken]; rfl
  have hz : (s.broken a k).breakFloor.frozen = (s.broken a k).frozen := State.frozen_breakFloor _
  have hm := (State.sansBreak_of_frozen hz).trans (s.sansBreak_broken a k)
  obtain ⟨b1, b2, b3, b4, b5, b6, b7, b8⟩ := (h.broken a k).breakFloor_effect
  have hraw : (s.broken a k).trunk = .down ∧ (s.broken a k).lostRun = 25 ∧ (s.broken a k).discarded = [] ∧
      (s.broken a k).awaiting = a := by
    unfold State.broken State.loseAllSeats
    simp
  obtain ⟨w1, w2, w3, w4⟩ := hraw
  have hended : (s.broken a k).endedNotice .trunkDown = s.endedNotice .trunkDown := by
    funext e
    rw [State.endedNotice, hc]; rfl
  have hholder : (s.broken a k).holderEnded .trunkDown = s.holderEnded .trunkDown := by
    rw [State.holderEnded_eq, State.holderEnded_eq, State.holderEntry, hc, hended]; rfl
  have hresumed : (s.broken a k).holderResumed = s.holderResumed := by
    rw [State.holderResumed, State.active, hc, e5]; rfl
  rw [exec_lostSweep, exec_trunkDown, if_pos hb, hstep]
  have ho : (s.broken a k).breakFloor.owed.lostSweep = none := by rw [State.frozen_owed hz, e7]
  refine ⟨_, rfl, rfl, (congrArg (fun u : State => u.trunk) hz : _).trans w1, (congrArg (fun u : State => u.lostRun) hz : _).trans w2, ho,
    (congrArg (fun u : State => u.discarded) hz : _).trans w3, ?_, b2, b3, by rw [b4, e4], fun c => by rw [b5, hc]; rfl, fun n => ?_, ?_, ?_,
    (congrArg (fun u : State => u.awaiting) hz : _).trans w4, State.sansBreak_eq hm ho⟩
  · rw [hended, hholder, hresumed, e2, e3] at b1
    have hv := b1.trans (State.noticeView_congr e8 _)
    rw [← State.raiseAll_cons] at hv
    simp only [State.noticeView, Prod.mk.injEq] at hv
    exact hv.2
  · rw [b6, State.seat_broken, e6]; rfl
  · rw [b7, e7]
    simp only [hp]
  · rw [b8, e7]
    simp only [hc]

/-- Settles O16: a loss that is not due, one that does not break the trunk, and the one that does. -/
theorem lostSweepsBreakTrunk : Obligations.LostSweepsBreakTrunk := by
  refine ⟨fun s hn ha => ?_, fun s k hb => ?_, fun s k h hu hr hk => trunkBreak_effect h hu hr hk⟩
  · have hstep : s.lostSweepStep = s := by
      rw [State.lostSweepStep, hn, State.declareAwaitedLoss]
      obtain ha | ha := ha
      · rw [ha]
      · simp only
        split
        · rfl
        · exact if_neg ha
    rw [exec_lostSweep, exec_trunkDown, hstep, ite_self]
    exact ⟨rfl, rfl⟩
  · have hl : s.lossBreaks = false := by
      rw [Bool.eq_false_iff]
      exact fun h => hb ((s.lossBreaks_iff).1 h)
    refine ⟨by rw [exec_trunkDown, hl]; rfl, fun hn ha hf => ?_, fun hn => ?_⟩
    · rw [exec_lostSweep, State.lostSweepStep, hn, State.declareAwaitedLoss, ha]
      simp only
      rw [if_pos (show s.frame = Config.framesPerInterval from hf),
        State.declareLost_of_not_breaks (s := { s with awaiting := none }) k hl]
    · rw [exec_lostSweep, State.lostSweepStep, hn, State.declareOwedLoss, hn]
      simp only
      rw [State.declareLost_of_not_breaks (s := s.setOwed { s.owed with lostSweep := none }) k hl]
      rfl

end Sys2Proof.Machine
end

section
/-! ## Pin reset and RESTART (R4, R16, R170) -/

namespace Sys2Proof.Machine

/-! ### The first sweep interval (R4, R16) -/

/-- R13: a transition of the head link reaches the head interface and the message streams alone. -/
theorem State.sansUnlock_link (s : State) : s.takeLock.takeUnlock.sansUnlock = s.sansUnlock := by
  rw [State.sansUnlock_takeUnlock, State.takeLock]
  split <;> rfl

/-- R4: the next frame period begins the first sweep interval, with sweep number 0 and blink phase ON, and nothing is due but
an unlock of the head link. -/
structure State.Beginning (s : State) : Prop where
  frame : s.frame = 96
  sweepNumber : s.sweepNumber = 0
  blinkOn : s.blinkOn = true
  awaiting : s.awaiting = none
  interval : s.IntervalSettled
  sweep : s.SweepSettled
  freed : s.owed.freed = []

theorem State.Beginning.of_link {s : State} (h : s.Beginning) : s.takeLock.takeUnlock.Beginning := by
  have e := s.sansUnlock_link
  have hf := s.freed_takeUnlock
  obtain ⟨h1, h2, h3, h4, h5, h6, h7⟩ := h
  generalize s.takeLock.takeUnlock = t at e hf ⊢
  have ho : ({ t.owed with unlock := false } : Owed) = { s.owed with unlock := false } := congrArg (·.owed) e
  refine ⟨(congrArg (·.frame) e : _).trans h1, (congrArg (·.sweepNumber) e : _).trans h2, (congrArg (·.blinkOn) e : _).trans h3,
    (congrArg (·.awaiting) e : _).trans h4, ?_, ?_, hf.trans h7⟩
  · obtain ⟨k1, k2, k3, k4, k5⟩ := h5
    exact ⟨(congrArg Owed.blink ho : _).trans k1, (congrArg Owed.lockouts ho : _).trans k2, (congrArg Owed.timers ho : _).trans k3,
      (congrArg Owed.lostSweep ho : _).trans k4, (congrArg Owed.returned ho : _).trans k5⟩
  · obtain ⟨k1, k2, k3, k4⟩ := h6
    exact ⟨(congrArg Owed.lostSweep ho : _).trans k1, (congrArg Owed.actions ho : _).trans k2, (congrArg Owed.losses ho : _).trans k3,
      (congrArg Owed.audit ho : _).trans k4⟩

/-- What the first frame period takes first: the link's transition, and the start of the interval. -/
theorem State.Beginning.beforeFrame {s : State} (h : s.Beginning) :
    s.beforeFrame = s.takeLock.takeUnlock.emitSweep.countInterval := by
  obtain ⟨h1, -, -, h4, h5, h6, h7⟩ := h.of_link
  rw [State.beforeFrame, State.takeAllFreed_of_nil h7, State.startInterval_of_settled h1 h5]
  generalize s.takeLock.takeUnlock = t at h4 h6 ⊢
  show t.emitSweep.countInterval.settleFirst = t.emitSweep.countInterval
  have hz : t.emitSweep.countInterval.frozen = t.emitSweep.frozen := State.frozen_countInterval _
  have he : t.emitSweep.owed = { t.owed with lostSweep := t.awaiting, blink := t.owed.blink || decide (124 ≤ t.blinkCount) } := by
    rw [State.emitSweep_eq]
  have hs : t.emitSweep.countInterval.SweepSettled := by
    rw [State.SweepSettled, State.frozen_owed hz, he]
    exact ⟨h4, h6.2.1, h6.2.2.1, h6.2.2.2⟩
  rw [State.settleFirst, State.settleSweep_of_settled hs, ite_self]

/-- R17: the stream bytes of a trunk frame stand behind its samples. -/
theorem drop_trunkFrame (p : Sample × Sample) (x : List Byte) : (trunkFrame p x).drop 33 = x := by
  rw [trunkFrame]
  exact List.drop_left' (by simp [length_sampleBytes])

/-- R5, R17: the first bytes of a record. -/
theorem take_nextStreamBytes (b : Bool) (k : Nat) (l : List Command) :
    (nextStreamBytes (recordOf b k l)).take 4 =
      [0xB4#8, if b then 1 else 0, BitVec.ofNat 8 (k / 256), BitVec.ofNat 8 (k % 256)] := rfl

/-- R6: what counts after an emission leave of it. -/
theorem State.emission_of_counted {t w : State} (h : w.frozen = t.emitSweep.frozen) :
    w.frame = 0 ∧ w.sweepNumber = (t.sweepNumber + 1) % 65536 ∧ w.lastEmitted = t.sweepNumber ∧
      w.stream = recordOf t.blinkOn t.sweepNumber (t.seats.map t.compose) := by
  obtain ⟨-, -, b3, b4, b5, -, b7, -, -⟩ := State.blinkOn_of_frozen h
  exact ⟨by rw [b7, State.emitSweep_eq], by rw [b3, State.emitSweep_eq], by rw [b5, State.emitSweep_eq], by rw [b4, State.emitSweep_eq]⟩

/-- A frame period leaves the numbers of the sweeps. -/
theorem State.framePeriod_numbers (s : State) (r h : Option (List Byte)) :
    (s.framePeriod r h).sweepNumber = s.sweepNumber ∧ (s.framePeriod r h).lastEmitted = s.lastEmitted := by
  have hf := s.sansFrame_framePeriod r h
  generalize s.framePeriod r h = t at hf ⊢
  exact ⟨congrArg (·.sweepNumber) hf, congrArg (·.lastEmitted) hf⟩

/-- R4, R5, R16: the first frame period emits the first bytes of sweep 0, with blink phase ON. -/
theorem State.Beginning.firstFrame {s : State} (hs : s.Beginning) (r h : Option (List Byte)) :
    ∃ v, exec (.framePeriod r h) s = .next v ∧ v.frame = 1 ∧ v.lastEmitted = 0 ∧ v.sweepNumber = 1 ∧
      (v.trunkOut.drop 33).take 4 = [0xB4#8, 1, 0, 0] := by
  have e := hs.beforeFrame
  have h2 := hs.of_link.sweepNumber
  have h3 := hs.of_link.blinkOn
  generalize s.takeLock.takeUnlock = t at e h2 h3
  obtain ⟨c1, c2, c3, c4⟩ := State.emission_of_counted t.emitSweep.frozen_countInterval
  rw [exec_framePeriod, e]
  generalize t.emitSweep.countInterval = w at c1 c2 c3 c4 ⊢
  obtain ⟨f1, -, f3⟩ := w.framePeriod_trunk r h
  obtain ⟨g1, g2⟩ := w.framePeriod_numbers r h
  refine ⟨w.framePeriod r h, rfl, f3.trans (by rw [c1]), g2.trans (c3.trans h2), g1.trans (c2.trans (by rw [h2])), ?_⟩
  rw [f1, drop_trunkFrame, c4, h3, h2, take_nextStreamBytes]
  rfl

/-! ### Pin reset -/

theorem State.beginning_reset (p : List Instr) : State.Beginning { State.reset with pending := p } where
  frame := rfl
  sweepNumber := rfl
  blinkOn := rfl
  awaiting := rfl
  interval := ⟨rfl, rfl, rfl, rfl, rfl⟩
  sweep := ⟨rfl, rfl, rfl, rfl⟩
  freed := rfl

/-- Settles O3: the values of the reset state, and the first frame period after it. -/
theorem pinResetLoadsResetValues : Obligations.PinResetLoadsResetValues := by
  intro s
  have hseat : ∀ n, ({ State.reset with pending := s.pending } : State).seat n = Seat.reset := State.seat_reset
  refine ⟨{ State.reset with pending := s.pending }, rfl, ⟨rfl, rfl, rfl, rfl, rfl, rfl, rfl, rfl, rfl, rfl⟩, ⟨rfl, fun n _ _ => ?_⟩,
    ⟨rfl, rfl, rfl, rfl, rfl, rfl⟩, fun c => ⟨State.chan_reset c, State.gain_reset c⟩, ⟨rfl, rfl, rfl, rfl, rfl, rfl, rfl⟩, rfl,
    ⟨rfl, rfl, rfl, rfl, rfl, rfl⟩, rfl, rfl, (State.beginning_reset s.pending).firstFrame⟩
  rw [hseat]
  exact ⟨rfl, rfl, rfl, rfl, rfl, rfl, rfl, rfl, rfl, rfl, rfl, rfl, rfl, rfl, rfl, rfl⟩

/-! ### RESTART -/

theorem State.beginning_restart (s : State) (tag : Byte) : (s.restart tag).Beginning where
  frame := rfl
  sweepNumber := rfl
  blinkOn := rfl
  awaiting := rfl
  interval := ⟨rfl, rfl, rfl, rfl, rfl⟩
  sweep := ⟨rfl, rfl, rfl, rfl⟩
  freed := rfl

theorem Scan.passOver_sub (a b : Nat) : Scan.passOver (a - b) = if a ≤ b then .seeking else .passing (a - b) := by
  simp [Scan.passOver, Nat.sub_eq_zero_iff_le]

/-- R16: the record that a RESTART cuts off. -/
theorem State.cutRecord_eq (s : State) :
    (s.awaiting = none ∨ 804 ≤ s.stream.length → s.cutRecord = []) ∧
      (∀ k, s.awaiting = some k → s.stream.length < 804 → s.cutRecord = [{ number := k, bytes := 804 - s.stream.length }]) := by
  unfold State.cutRecord
  refine ⟨fun h => ?_, fun k hk hl => ?_⟩
  · cases ha : s.awaiting with
    | none => rfl
    | some k =>
      have hl : 804 ≤ s.stream.length := by simpa [ha] using h
      simp [Config.recordBytes, Nat.sub_eq_zero_of_le hl]
  · have : 804 - s.stream.length ≠ 0 := by omega
    simp [hk, Config.recordBytes, this]

/-- Settles O52: the values of the restarted state, the scan by its cases (`cutScan`), and the first frame period after it. -/
theorem restartResetsAllButHead : Obligations.RestartResetsAllButHead := by
  intro s tag rest hd
  let t := (s.withBuffer rest).restart tag
  have ht : exec .restart s = .next t := congrArg Host.Outcome.next (State.dispatch_due hd _)
  have hscan : t.scan = s.cutScan.1 := rfl
  have hdisc : t.discarded = s.cutScan.2 := rfl
  obtain ⟨hc1, hc2⟩ := s.cutRecord_eq
  refine ⟨t, { State.reset with pending := s.pending }, ht, rfl, rfl, ?_, fun m hm => ?_, fun h => ?_, fun l b h => ?_, fun got d h => ?_,
    ⟨s.cutRecord, hc1, hc2, fun h => ?_, fun left h => ?_, fun got early d later h hdis hmay hearly => ?_⟩, fun got h hmay => ?_,
    fun left h => ?_, ⟨rfl, rfl, rfl, State.Beginning.firstFrame (State.beginning_restart _ tag)⟩, rfl⟩
  · show (s.sending.map fun m => ({ m with source := .apart } : Sending)).map Sending.rest = _
    cases s.sending <;> rfl
  · obtain ⟨m', -, rfl⟩ := Option.map_eq_some_iff.1 (show (s.sending.map fun m => ({ m with source := .apart } : Sending)) = some m from hm)
    rfl
  · show s.rx.cut = _
    rw [h]; rfl
  · show s.rx.cut = _
    rw [h]; rfl
  · show s.rx.cut = _
    rw [h]; rfl
  · rw [hscan, hdisc, State.cutScan, h]
    exact ⟨rfl, rfl⟩
  · rw [hscan, hdisc, State.cutScan, h]
    exact ⟨rfl, rfl⟩
  · have hu := (s.underWay_cons got d later).2 ⟨early, hdis, hmay, hearly⟩
    rw [hscan, hdisc, State.cutScan, h]
    simp only [hu, Scan.passOver_sub, and_self]
  · have hu := (s.underWay_nil got).2 hmay
    rw [hscan, hdisc, State.cutScan, h]
    simp only [hu, Nat.sub_sub, Scan.passOver_sub, Config.recordBytes, and_self]
  · rw [hscan, hdisc, State.cutScan, h]
    simp only [Scan.passOver_sub, and_self]

end Sys2Proof.Machine
end

section
/-! ## The scan of trunk-return, byte by byte (R8, R16) -/

namespace Sys2Proof.Machine

/-- `s` with its scan at `x` and the discarded records `ds` still to come. -/
def State.withScan (s : State) (x : Scan) (ds : List Discarded) : State := { s with scan := x, discarded := ds }

/-- The bytes of trunk-return, one after another. -/
def State.scanBytes (s : State) (l : List Byte) : State := l.foldl State.scanByte s

theorem State.scanBytes_nil (s : State) : s.scanBytes [] = s := rfl

theorem State.scanBytes_cons (s : State) (b : Byte) (l : List Byte) : s.scanBytes (b :: l) = (s.scanByte b).scanBytes l := rfl

theorem State.scanBytes_append (s : State) (l m : List Byte) : s.scanBytes (l ++ m) = (s.scanBytes l).scanBytes m :=
  List.foldl_append

/-! ### Positions that are passed over -/

theorem State.scanByte_passing (s : State) (left : Nat) (ds : List Discarded) (b : Byte) :
    (s.withScan (.passing left) ds).scanByte b = s.withScan (.passOver (left - 1)) ds := rfl

theorem Scan.passOver_of_pos {left : Nat} (h : 0 < left) : Scan.passOver left = .passing left := if_neg (by omega)

/-- R8: positions to be passed over go by, whatever their bytes. -/
theorem State.scanBytes_passing (s : State) (l : List Byte) {left : Nat} (h : 0 < left) (hl : l.length ≤ left) (ds : List Discarded) :
    (s.withScan (.passing left) ds).scanBytes l = s.withScan (.passOver (left - l.length)) ds := by
  induction l generalizing left with
  | nil => rw [List.length_nil, Nat.sub_zero, Scan.passOver_of_pos h]; rfl
  | cons b l ih =>
    rw [State.scanBytes_cons, State.scanByte_passing, List.length_cons]
    by_cases h1 : 0 < left - 1
    · rw [Scan.passOver_of_pos h1, ih h1 (by simp at hl; omega)]
      congr 2
      omega
    · have hnil : l = [] := List.length_eq_zero_iff.1 (by simp at hl; omega)
      subst hnil
      rw [State.scanBytes_nil]
      rfl

/-- A candidate that is over stays over. -/
theorem State.scanBytes_finished (s : State) (l : List Byte) (left : Nat) (ds : List Discarded) :
    (s.withScan (.finished left) ds).scanBytes l = s.withScan (.finished (left - l.length)) ds := by
  induction l generalizing left with
  | nil => rfl
  | cons b l ih =>
    rw [State.scanBytes_cons]
    refine (ih (left - 1)).trans ?_
    rw [List.length_cons, Nat.sub_sub, Nat.add_comm]

/-! ### The marker -/

/-- R8: without a marker the search goes on. -/
theorem State.scanBytes_seeking (s : State) {l : List Byte} (h : 0xB4#8 ∉ l) (ds : List Discarded) :
    (s.withScan .seeking ds).scanBytes l = s.withScan .seeking ds := by
  induction l with
  | nil => rfl
  | cons b l ih =>
    have hb : ¬b = 0xB4#8 := fun e => h (by simp [e])
    have e : (s.withScan .seeking ds).scanByte b = s.withScan .seeking ds := if_neg hb
    rw [State.scanBytes_cons, e, ih fun hm => h (List.mem_cons_of_mem _ hm)]

theorem State.scanByte_marker (s : State) (ds : List Discarded) :
    (s.withScan .seeking ds).scanByte 0xB4#8 = s.withScan (.taking [0xB4#8]) ds := rfl

/-! ### The candidate -/

theorem wordAt_append (l m : List Byte) {i : Nat} (h : i + 2 ≤ l.length) : wordAt (l ++ m) i = wordAt l i := by
  have key : ∀ j, j < l.length → (l ++ m).getD j 0 = l.getD j 0 := fun j hj => by
    simp [List.getD_eq_getElem?_getD, List.getElem?_append_left hj]
  simp only [wordAt, byteAt, key i (by omega), key (i + 1) (by omega)]

/-- The header of the candidate, when it is complete, does not begin a record that is to be passed over. -/
def State.Begins (s : State) (ds : List Discarded) (cand : List Byte) : Prop :=
  s.awaiting = some (wordAt cand 2) ∨ ∀ d ∈ ds, d.number ≠ wordAt cand 2

/-- Byte `b` after `got`, latest byte first, is no marker where a discarded record of the candidate's number was cut off. -/
theorem State.scanByte_taking_of_uncut (s : State) (got : List Byte) (b : Byte) (ds : List Discarded)
    (h : ∀ d ∈ ds, d.ShownBy (got.reverse ++ [b]) → d.bytes ≠ got.length) :
    (s.withScan (.taking got) ds).scanByte b = (s.withScan (.taking got) ds).takeCandidate got b := by
  show (match (s.withScan (.taking got) ds).cutHere got with
    | [] => (s.withScan (.taking got) ds).takeCandidate got b
    | _ :: later => if b = 0xB4#8 then { s.withScan (.taking got) ds with scan := .taking [b], discarded := later }
      else (s.withScan (.taking got) ds).takeCandidate got b) = _
  cases hc : (s.withScan (.taking got) ds).cutHere got with
  | nil => rfl
  | cons d later =>
    obtain ⟨early, hds, ⟨h4, hn, hb⟩, -⟩ := (State.cutHere_cons _ _ _ _).1 hc
    refine if_neg fun hm => h d ?_ ⟨by omega, ?_, ?_⟩ hb
    · have hd : ds = early ++ d :: later := hds
      rw [hd]; simp
    · rw [hn, wordAt_append _ _ (by simpa using h4)]
    · simp [hb, hm]

/-- The byte joins the candidate, unless it completes a header that begins another record, or the record itself. -/
theorem State.takeCandidate_joins (s : State) (got : List Byte) (b : Byte) (ds : List Discarded) (hlt : got.length + 1 < 804)
    (h : got.length + 1 = 4 → s.Begins ds (got.reverse ++ [b])) :
    (s.withScan (.taking got) ds).takeCandidate got b = s.withScan (.taking (b :: got)) ds := by
  unfold State.takeCandidate
  by_cases h4 : got.length + 1 = Config.headerBytes
  · rw [if_pos h4, State.meetHeader, List.reverse_cons]
    obtain ha | hd := h h4
    · rw [if_pos (show (s.withScan (.taking got) ds).awaiting = some (wordAt (got.reverse ++ [b]) 2) from ha)]; rfl
    · by_cases ha : (s.withScan (.taking got) ds).awaiting = some (wordAt (got.reverse ++ [b]) 2)
      · rw [if_pos ha]; rfl
      · have hnil : ((s.withScan (.taking got) ds).discarded.dropWhile fun d => d.number != wordAt (got.reverse ++ [b]) 2) = [] :=
          List.dropWhile_eq_nil_iff.2 fun d hm => by simpa using hd d hm
        rw [if_neg ha, hnil]; rfl
  · rw [if_neg h4, if_pos (show got.length + 1 < Config.recordBytes from hlt)]; rfl

theorem Discarded.ShownBy.append {d : Discarded} {cand : List Byte} (h : d.ShownBy cand) (m : List Byte) : d.ShownBy (cand ++ m) := by
  obtain ⟨h4, hn, hb⟩ := h
  have hlt : d.bytes < cand.length := (List.getElem?_eq_some_iff.1 hb).1
  exact ⟨h4, by rw [hn, wordAt_append _ _ (by omega)], by rw [List.getElem?_append_left hlt]; exact hb⟩

/-- R8: the candidate collects its bytes, while it is not complete and no record of a RESTART shows. -/
theorem State.scanBytes_taking (s : State) (l : List Byte) (got : List Byte) (ds : List Discarded) (hlt : got.length + l.length < 804)
    (hbegin : got.length < 4 → 4 ≤ got.length + l.length → s.Begins ds (got.reverse ++ l))
    (huncut : ∀ d ∈ ds, d.ShownBy (got.reverse ++ l) → d.bytes < got.length) :
    (s.withScan (.taking got) ds).scanBytes l = s.withScan (.taking (l.reverse ++ got)) ds := by
  induction l generalizing got with
  | nil => rfl
  | cons b l ih =>
    have happ : got.reverse ++ b :: l = (got.reverse ++ [b]) ++ l := by simp
    rw [List.length_cons] at hlt hbegin
    have hword : 4 ≤ got.length + 1 → wordAt (got.reverse ++ b :: l) 2 = wordAt (got.reverse ++ [b]) 2 := fun h4 => by
      rw [happ, wordAt_append _ _ (by simp; omega)]
    rw [State.scanBytes_cons, State.scanByte_taking_of_uncut, State.takeCandidate_joins, ih (b :: got)]
    · simp
    · simp only [List.length_cons]; omega
    · intro h1 h2
      simp only [List.length_cons] at h1 h2
      rw [List.reverse_cons, ← happ]
      exact hbegin (by omega) (by omega)
    · intro d hd hs
      rw [List.reverse_cons, ← happ] at hs
      exact Nat.lt_succ_of_lt (huncut d hd hs)
    · omega
    · intro h4
      rw [State.Begins, ← hword (by omega)]
      exact hbegin (by omega) (by omega)
    · intro d hd hs he
      have := huncut d hd (happ ▸ hs.append l)
      omega

/-! ### A header that begins a discarded record, and a record that is cut off -/

/-- R8, R16: a header with another number than the awaited one, that of a discarded record, begins that record. -/
theorem State.scanBytes_header (s : State) (l got : List Byte) {ds early later : List Discarded} {d : Discarded}
    (hds : ds = early ++ d :: later) (h4 : got.length < 4) (hl : 4 ≤ got.length + l.length)
    (ha : s.awaiting ≠ some (wordAt (got.reverse ++ l) 2)) (hd : d.number = wordAt (got.reverse ++ l) 2)
    (he : ∀ x ∈ early, x.number ≠ d.number) :
    (s.withScan (.taking got) ds).scanBytes l = (s.withScan (.passOver (d.bytes - 4)) later).scanBytes (l.drop (4 - got.length)) := by
  obtain ⟨m, b, hm, hsplit⟩ : ∃ (m : List Byte) (b : Byte), got.length + m.length = 3 ∧ l = m ++ b :: l.drop (4 - got.length) := by
    have hlen : 3 - got.length < l.length := by omega
    refine ⟨l.take (3 - got.length), l[3 - got.length], by simp; omega, ?_⟩
    have h1 : 4 - got.length = (3 - got.length) + 1 := by omega
    rw [h1, ← List.drop_eq_getElem_cons hlen, List.take_append_drop]
  have hshort : ∀ x ∈ ds, x.ShownBy (got.reverse ++ m) → x.bytes < got.length := by
    rintro x - ⟨h1, -, h2⟩
    have h3 := (List.getElem?_eq_some_iff.1 h2).1
    rw [List.length_append, List.length_reverse] at h3
    omega
  have hword : wordAt (got.reverse ++ l) 2 = wordAt (b :: (m.reverse ++ got)).reverse 2 := by
    have h1 : got.reverse ++ l = (b :: (m.reverse ++ got)).reverse ++ l.drop (4 - got.length) := by
      conv_lhs => rw [hsplit]
      simp
    rw [h1, wordAt_append _ _ (by simp; omega)]
  rw [hword] at ha hd
  conv_lhs => rw [hsplit]
  rw [State.scanBytes_append, State.scanBytes_taking s m got ds (by omega) (fun _ h => absurd h (by omega)) hshort, State.scanBytes_cons,
    State.scanByte_taking_of_uncut]
  · have hmeet : (s.withScan (.taking (m.reverse ++ got)) ds).takeCandidate (m.reverse ++ got) b =
        s.withScan (.passOver (d.bytes - 4)) later := by
      rw [State.takeCandidate, if_pos (by simp [Config.headerBytes]; omega), State.meetHeader,
        if_neg (show (s.withScan (.taking (m.reverse ++ got)) ds).awaiting ≠ _ from ha)]
      have hdrop : ((s.withScan (.taking (m.reverse ++ got)) ds).discarded.dropWhile
          fun x => x.number != wordAt (b :: (m.reverse ++ got)).reverse 2) = d :: later := by
        refine dropWhile_eq_cons.2 ⟨early, hds, by simp [hd], fun x hx => ?_⟩
        have := he x hx
        rw [hd] at this
        simpa using this
      rw [hdrop]; rfl
    rw [hmeet]
  · rintro x - ⟨h1, -, -⟩ h2
    simp only [List.length_append, List.length_reverse] at h2
    omega

/-- R8, R16: a marker where a discarded record of the candidate's number was cut off begins the next record. -/
theorem State.scanBytes_cut (s : State) (l m got : List Byte) {ds early later : List Discarded} {d : Discarded}
    (hds : ds = early ++ d :: later) (hlen : got.length + l.length = d.bytes) (h4 : 4 ≤ d.bytes) (hlt : d.bytes < 804)
    (hbegin : got.length < 4 → s.awaiting = some (wordAt (got.reverse ++ l) 2)) (hd : d.number = wordAt (got.reverse ++ l) 2)
    (he : ∀ x ∈ early, x.number = d.number → x.bytes ≠ d.bytes)
    (hmin : ∀ x ∈ ds, x.ShownBy (got.reverse ++ l) → x.bytes < got.length) :
    (s.withScan (.taking got) ds).scanBytes (l ++ 0xB4#8 :: m) = (s.withScan .seeking later).scanBytes (0xB4#8 :: m) := by
  have hcut : (s.withScan (.taking (l.reverse ++ got)) ds).cutHere (l.reverse ++ got) = d :: later := by
    refine (State.cutHere_cons _ _ _ _).2 ⟨early, hds, ⟨?_, ?_, ?_⟩, ?_⟩
    · simp only [List.length_append, List.length_reverse]; omega
    · rw [hd]; simp
    · simp only [List.length_append, List.length_reverse]; omega
    · rintro x hx ⟨-, h2, h3⟩
      refine he x hx ?_ ?_
      · rw [h2, hd]; simp
      · rw [h3]; simp only [List.length_append, List.length_reverse]; omega
  rw [State.scanBytes_append, State.scanBytes_taking s l got ds (by omega) (fun h _ => .inl (hbegin h)) hmin, State.scanBytes_cons,
    State.scanBytes_cons, State.scanByte_marker]
  show State.scanBytes (match (s.withScan (.taking (l.reverse ++ got)) ds).cutHere (l.reverse ++ got) with
    | [] => (s.withScan (.taking (l.reverse ++ got)) ds).takeCandidate (l.reverse ++ got) 0xB4#8
    | _ :: later' => if (0xB4#8 : Byte) = 0xB4#8 then
        { s.withScan (.taking (l.reverse ++ got)) ds with scan := .taking [0xB4#8], discarded := later' }
      else (s.withScan (.taking (l.reverse ++ got)) ds).takeCandidate (l.reverse ++ got) 0xB4#8) m = _
  rw [hcut]
  rfl

/-! ### A candidate that is complete (R8, R9) -/

/-- R8: a complete record is judged, and the bytes behind it are not examined. -/
theorem State.scanBytes_complete (s : State) (l m got : List Byte) (b : Byte) (ds : List Discarded) (hlen : got.length + l.length = 803)
    (hbegin : got.length < 4 → s.Begins ds (got.reverse ++ (l ++ [b])))
    (huncut : ∀ d ∈ ds, d.ShownBy (got.reverse ++ (l ++ [b])) → d.bytes < got.length) :
    (s.withScan (.taking got) ds).scanBytes (l ++ b :: m) =
      (s.withScan (.taking (l.reverse ++ got)) ds).judgeCandidate (b :: (l.reverse ++ got)) := by
  have happ : got.reverse ++ (l ++ [b]) = (got.reverse ++ l) ++ [b] := by simp
  have hword : wordAt (got.reverse ++ (l ++ [b])) 2 = wordAt (got.reverse ++ l) 2 := by
    rw [happ, wordAt_append _ _ (by simp; omega)]
  have hjudge : ∀ u : State, ∀ g, (u.judgeCandidate g).scanBytes m = u.judgeCandidate g := by
    intro u g
    have hfin : ∃ v : State, u.judgeCandidate g = v.withScan (.finished 0) [] := by
      refine ⟨u.judgeCandidate g, ?_⟩
      unfold State.judgeCandidate
      simp only
      split
      · rfl
      · split <;> rfl
    obtain ⟨v, hv⟩ := hfin
    rw [hv, State.scanBytes_finished, Nat.zero_sub]
  rw [State.scanBytes_append, State.scanBytes_taking s l got ds (by omega) ?_ ?_, State.scanBytes_cons,
    State.scanByte_taking_of_uncut, State.takeCandidate, if_neg, if_neg, hjudge]
  · simp [Config.recordBytes]; omega
  · simp [Config.headerBytes]; omega
  · intro d hd hs he
    have hs' : d.ShownBy (got.reverse ++ (l ++ [b])) := by simpa using hs
    have := huncut d hd hs'
    simp only [List.length_append, List.length_reverse] at he
    omega
  · intro h _
    rw [State.Begins, ← hword]
    exact hbegin h
  · intro d hd hs
    exact huncut d hd (happ ▸ hs.append [b])

end Sys2Proof.Machine
end

section
/-! ## The scan of a frame period (R8, R16, R17) -/

namespace Sys2Proof.Machine

/-! ### The up halves of a record (R9, R17) -/

theorem length_upHalvesOf (l : List Byte) : (upHalvesOf l).length = l.length / 4 := by
  induction l using upHalvesOf.induct with
  | case1 b0 b1 b2 b3 rest ih => rw [upHalvesOf, List.length_cons, ih]; simp only [List.length_cons]; omega
  | case2 l h =>
    have hl : l.length < 4 := by
      match l, h with
      | [], _ | [_], _ | [_, _], _ | [_, _, _], _ => simp
      | b0 :: b1 :: b2 :: b3 :: rest, h => exact absurd rfl (h b0 b1 b2 b3 rest)
    rw [upHalvesOf.eq_2 l h, List.length_nil]
    omega

theorem getD_upHalvesOf (l : List Byte) (i : Nat) (h : 4 * i + 3 < l.length) :
    (upHalvesOf l).getD i UpHalf.unanswered = upHalfOf (l.getD (4 * i + 2) 0) (l.getD (4 * i + 3) 0) := by
  induction l using upHalvesOf.induct generalizing i with
  | case1 b0 b1 b2 b3 rest ih =>
    rw [upHalvesOf]
    cases i with
    | zero => rfl
    | succ i =>
      simp only [List.length_cons] at h
      have e2 : 4 * (i + 1) + 2 = (4 * i + 2) + 1 + 1 + 1 + 1 := by omega
      have e3 : 4 * (i + 1) + 3 = (4 * i + 3) + 1 + 1 + 1 + 1 := by omega
      rw [e2, e3]
      exact ih i (by omega)
  | case2 l hl =>
    match l, hl with
    | [], _ | [_], _ | [_, _], _ | [_, _, _], _ => simp at h
    | b0 :: b1 :: b2 :: b3 :: rest, hl => exact absurd rfl (hl b0 b1 b2 b3 rest)

/-- R17: seat `n` of a record. -/
theorem upOf_record (cand : List Byte) (h : cand.length = 804) {n : Nat} (h1 : 1 ≤ n) (h2 : n ≤ 200) :
    upOf (upHalvesOf (cand.drop 4)) n = upHalfOf (cand.getD (4 * n + 2) 0) (cand.getD (4 * n + 3) 0) := by
  have key : ∀ j, (cand.drop 4).getD j 0 = cand.getD (4 + j) 0 := fun j => by
    simp [List.getD_eq_getElem?_getD, List.getElem?_drop]
  rw [upOf, getD_upHalvesOf _ _ (by simp; omega), key, key]
  have e2 : 4 + (4 * (n - 1) + 2) = 4 * n + 2 := by omega
  have e3 : 4 + (4 * (n - 1) + 3) = 4 * n + 3 := by omega
  rw [e2, e3]

/-! ### What a frame period shows of the scan -/

/-- After the trunk frame and the bytes of trunk-return, nothing else of a frame period reaches the scan. -/
theorem State.framePeriod_scan (s : State) (r h : Option (List Byte)) :
    (s.framePeriod r h).scan = (s.emitFrame.scanFrame r).scan ∧ (s.framePeriod r h).awaiting = (s.emitFrame.scanFrame r).awaiting ∧
      (s.framePeriod r h).owed.returned = (s.emitFrame.scanFrame r).owed.returned ∧
      (s.framePeriod r h).discarded = (s.emitFrame.scanFrame r).discarded := by
  unfold State.framePeriod
  generalize s.emitFrame.scanFrame r = u
  have e1 := u.stepGains.sansHeadOut_sendHeadFrame (uplink r)
  have e2 := (u.stepGains.sendHeadFrame (uplink r)).sansHeadIn_headIn h
  generalize u.stepGains.sendHeadFrame (uplink r) = v at e1 e2 ⊢
  generalize v.headIn h = w at e2 ⊢
  have k1 : w.scan = v.scan := congrArg (·.scan) e2
  have k2 : w.awaiting = v.awaiting := congrArg (·.awaiting) e2
  have k3 : w.owed.returned = v.owed.returned := congrArg (·.owed.returned) e2
  have k4 : w.discarded = v.discarded := congrArg (·.discarded) e2
  rw [k1, k2, k3, k4]
  exact ⟨congrArg (·.scan) e1, congrArg (·.awaiting) e1, congrArg (·.owed.returned) e1, congrArg (·.discarded) e1⟩

theorem streamOf_eq {b : List Byte} (hb : b.length = 45) : streamOf b = b.drop 33 :=
  List.take_of_length_le (by simp [hb, Config.streamBytesPerFrame])

/-- R17: the stream bytes of a returned frame, scanned. -/
theorem State.scanFrame_some (s : State) {b : List Byte} (hb : b.length = 45) :
    s.emitFrame.scanFrame (some b) = (s.emitFrame.withScan s.scan s.discarded).scanBytes (b.drop 33) := by
  rw [State.scanFrame, streamOf_eq hb]; rfl

/-- What a frame period leaves of the scan where its bytes return no sweep. -/
theorem State.framePeriod_scanned {s : State} {b : List Byte} {x : Scan} {ds : List Discarded} (hb : b.length = 45)
    (e : (s.emitFrame.withScan s.scan s.discarded).scanBytes (b.drop 33) = s.emitFrame.withScan x ds) (h : Option (List Byte)) :
    (s.framePeriod (some b) h).scan = x ∧ (s.framePeriod (some b) h).awaiting = s.awaiting ∧
      (s.framePeriod (some b) h).owed.returned = s.owed.returned ∧ (s.framePeriod (some b) h).discarded = ds := by
  obtain ⟨k1, k2, k3, k4⟩ := s.framePeriod_scan (some b) h
  rw [k1, k2, k3, k4, State.scanFrame_some s hb, e]
  exact ⟨rfl, rfl, rfl, rfl⟩

/-- A frame period looks at the scan and at the discarded records only through the bytes it scans. -/
theorem exec_framePeriod_scan_congr {s : State} (hr : s.FrameReady) {b : List Byte} (hb : b.length = 45) {x : Scan} {ds : List Discarded}
    (e : (s.emitFrame.withScan s.scan s.discarded).scanBytes (b.drop 33) = (s.emitFrame.withScan x ds).scanBytes (b.drop 33))
    (h : Option (List Byte)) :
    exec (.framePeriod (some b) h) s = exec (.framePeriod (some b) h) (s.withScan x ds) := by
  have hr' : (s.withScan x ds).FrameReady := hr
  have e' : (s.withScan x ds).emitFrame.scanFrame (some b) = s.emitFrame.scanFrame (some b) := by
    rw [State.scanFrame_some s hb, e, State.scanFrame_some _ hb]; rfl
  rw [exec_framePeriod_of_ready hr, exec_framePeriod_of_ready hr', State.framePeriod, State.framePeriod, e']

/-! ### A frame period without a returned frame -/

/-- The second part of O9. -/
theorem framePeriod_gap (s : State) (h : Option (List Byte)) (hr : s.FrameReady) :
    ∃ t, exec (.framePeriod none h) s = .next t ∧
     t.awaiting = s.awaiting ∧ t.owed.returned = s.owed.returned ∧
     (s.scan = .seeking → t.scan = .seeking ∧ t.discarded = s.discarded) ∧
     (∀ left, s.scan = .finished left → t.scan = .finished (left - 12) ∧ t.discarded = s.discarded) ∧
     (∀ left, s.scan = .passing left →
       t.scan = (if left ≤ 12 then .seeking else .passing (left - 12)) ∧ t.discarded = s.discarded) ∧
     (∀ got, s.scan = .taking got → (∀ d ∈ s.discarded, ¬d.MayBe got) →
       t.scan = .finished (804 - got.length - 12) ∧ t.discarded = s.discarded) ∧
     (∀ got early d later, s.scan = .taking got → s.discarded = early ++ d :: later → d.MayBe got →
       (∀ x ∈ early, ¬x.MayBe got) →
       t.scan = (if d.bytes ≤ got.length + 12 then .seeking else .passing (d.bytes - got.length - 12)) ∧
         t.discarded = later) := by
  obtain ⟨k1, k2, k3, k4⟩ := s.framePeriod_scan none h
  refine ⟨s.framePeriod none h, exec_framePeriod_of_ready hr none h, ?_⟩
  rw [k1, k2, k3, k4]
  show s.emitFrame.scanGap.awaiting = _ ∧ s.emitFrame.scanGap.owed.returned = _ ∧ _
  have hkeep : s.emitFrame.scanGap.awaiting = s.awaiting ∧ s.emitFrame.scanGap.owed.returned = s.owed.returned := by
    unfold State.scanGap
    split
    · exact ⟨rfl, rfl⟩
    · split <;> exact ⟨rfl, rfl⟩
    · exact ⟨rfl, rfl⟩
    · exact ⟨rfl, rfl⟩
  have hscan : s.emitFrame.scan = s.scan := rfl
  refine ⟨hkeep.1, hkeep.2, fun hs => ?_, fun left hs => ?_, fun left hs => ?_, fun got hs hmay => ?_,
    fun got early d later hs hdis hmay hearly => ?_⟩
  all_goals show s.emitFrame.scanGap.scan = _ ∧ s.emitFrame.scanGap.discarded = _; rw [State.scanGap, hscan, hs]
  · exact ⟨hs, rfl⟩
  · exact ⟨rfl, rfl⟩
  · exact ⟨Scan.passOver_sub _ _, rfl⟩
  · have hu : s.emitFrame.underWay got = [] := (s.underWay_nil got).2 hmay
    simp only [hu]
    exact ⟨trivial, rfl⟩
  · have hu : s.emitFrame.underWay got = d :: later := (s.underWay_cons got d later).2 ⟨early, hdis, hmay, hearly⟩
    simp only [hu]
    exact ⟨by rw [Nat.sub_sub]; exact Scan.passOver_sub _ _, trivial⟩

end Sys2Proof.Machine
end

section
/-! ## The candidate of a frame period (R8, R16, R17) -/

namespace Sys2Proof.Machine

/-- Positions passed over, and the marker sought behind them. -/
theorem State.scanBytes_passOver (s : State) {l : List Byte} {n : Nat} (h : l.length ≤ n) (ds : List Discarded) :
    (s.withScan (.passOver n) ds).scanBytes l = s.withScan (.passOver (n - l.length)) ds := by
  by_cases h0 : 0 < n
  · rw [Scan.passOver_of_pos h0, State.scanBytes_passing s l h0 h]
  · have hl : l = [] := List.length_eq_zero_iff.1 (by omega)
    subst hl
    rfl

/-- R8: the search for the marker, from where it stands: `k` positions to be passed over, then bytes without a marker. -/
theorem State.scanBytes_sought (s : State) {x : Scan} {k : Nat} (hx : (x = .seeking ∧ k = 0) ∨ (x = .passing k ∧ 0 < k))
    {l before cand : List Byte} (hk : k ≤ l.length) (hl : l.drop k = before ++ cand) (hb : 0xB4#8 ∉ before) (ds : List Discarded) :
    l = (l.take k ++ before) ++ cand ∧ (l.take k ++ before).length = k + before.length ∧
      (s.withScan x ds).scanBytes (l.take k ++ before) = s.withScan .seeking ds := by
  refine ⟨by rw [List.append_assoc, ← hl, List.take_append_drop], by rw [List.length_append, List.length_take_of_le hk], ?_⟩
  have hpass : x = .passOver k := by
    obtain ⟨rfl, rfl⟩ | ⟨rfl, h0⟩ := hx
    · rfl
    · exact (Scan.passOver_of_pos h0).symm
  rw [State.scanBytes_append, hpass, State.scanBytes_passOver s (by rw [List.length_take_of_le hk]), List.length_take_of_le hk,
    Nat.sub_self]
  exact State.scanBytes_seeking s hb ds

/-- R8: the record handed on from a candidate whose 804 bytes are `cand`. -/
theorem State.judgeCandidate_shows (s : State) {cand : List Byte} (hc : cand.length = 804) :
    (s.judgeCandidate cand.reverse).scan = .finished 0 ∧ (s.judgeCandidate cand.reverse).discarded = [] ∧
      (∀ k, s.awaiting = some k → wordAt cand 2 = k →
        (s.judgeCandidate cand.reverse).awaiting = none ∧
          ∃ ups, (s.judgeCandidate cand.reverse).owed.returned = some { sweep := k, ups := ups } ∧ ups.length = 200 ∧
            ∀ n b2 b3, 1 ≤ n → n ≤ 200 → b2 = cand.getD (4 * n + 2) 0 → b3 = cand.getD (4 * n + 3) 0 →
              upOf ups n = { answered := b2.getLsbD 0, live := b2.getLsbD 1, talk := b3.getLsbD 0,
                             priority := b3.getLsbD 1, next := b3.getLsbD 2, cancel := b3.getLsbD 3 }) ∧
      (s.awaiting ≠ some (wordAt cand 2) →
        (s.judgeCandidate cand.reverse).awaiting = s.awaiting ∧ (s.judgeCandidate cand.reverse).owed.returned = s.owed.returned) := by
  unfold State.judgeCandidate
  simp only [List.reverse_reverse]
  refine ⟨?_, ?_, fun k hk hw => ?_, fun hne => ?_⟩
  · split
    · rfl
    · split <;> rfl
  · split
    · rfl
    · split <;> rfl
  · simp only [hk, hw, if_true]
    refine ⟨trivial, upHalvesOf (cand.drop 4), rfl, by rw [length_upHalvesOf]; simp [hc], fun n b2 b3 h1 h2 e2 e3 => ?_⟩
    rw [upOf_record cand hc h1 h2, e2, e3]; rfl
  · cases ha : s.awaiting with
    | none => exact ⟨rfl, rfl⟩
    | some k =>
      have hw : ¬wordAt cand 2 = k := fun e => hne (by rw [ha, e])
      simp only [hw, if_false]
      exact ⟨trivial, trivial⟩

/-- R8: a candidate under way takes the bytes of a frame period, and is judged where they complete it. -/
theorem framePeriod_taking {s : State} {b : List Byte} (h : Option (List Byte)) (hb : b.length = 45) {got cand : List Byte}
    (hs : s.scan = .taking got) (hlt : got.length < 804) (hc : cand = (got.reverse ++ b.drop 33).take 804)
    (hbegin : 4 ≤ got.length ∨ s.awaiting = some (wordAt cand 2) ∨ ∀ d ∈ s.discarded, d.number ≠ wordAt cand 2)
    (huncut : ∀ d ∈ s.discarded, d.ShownBy cand → d.bytes < got.length) (t : State) (ht : t = s.framePeriod (some b) h) :
    (got.length + 12 < 804 → t.scan = .taking cand.reverse ∧ t.awaiting = s.awaiting ∧
       t.owed.returned = s.owed.returned ∧ t.discarded = s.discarded) ∧
    (804 ≤ got.length + 12 → t.scan = .finished 0 ∧ t.discarded = [] ∧
       (∀ k, s.awaiting = some k → wordAt cand 2 = k →
         t.awaiting = none ∧ ∃ ups, t.owed.returned = some { sweep := k, ups := ups } ∧ ups.length = 200 ∧
           ∀ n b2 b3, 1 ≤ n → n ≤ 200 → b2 = cand.getD (4 * n + 2) 0 → b3 = cand.getD (4 * n + 3) 0 →
             upOf ups n = { answered := b2.getLsbD 0, live := b2.getLsbD 1, talk := b3.getLsbD 0,
                            priority := b3.getLsbD 1, next := b3.getLsbD 2, cancel := b3.getLsbD 3 }) ∧
       (s.awaiting ≠ some (wordAt cand 2) → t.awaiting = s.awaiting ∧ t.owed.returned = s.owed.returned)) := by
  subst ht
  have hl : (b.drop 33).length = 12 := by simp [hb]
  have hbeg : got.length < 4 → s.emitFrame.Begins s.discarded cand := fun h => hbegin.resolve_left (by omega)
  refine ⟨fun h1 => ?_, fun h1 => ?_⟩
  · have hfull : cand = got.reverse ++ b.drop 33 := by
      rw [hc, List.take_of_length_le (by simp [hb]; omega)]
    have e : (s.emitFrame.withScan s.scan s.discarded).scanBytes (b.drop 33) = s.emitFrame.withScan (.taking cand.reverse) s.discarded := by
      rw [hs, State.scanBytes_taking _ _ _ _ (by omega) (fun h _ => hfull ▸ hbeg h) (hfull ▸ huncut), hfull]
      simp
    exact State.framePeriod_scanned hb e h
  · obtain ⟨l, x, m, hsplit, hlen⟩ : ∃ l x m, b.drop 33 = l ++ x :: m ∧ got.length + l.length = 803 := by
      have hi : 803 - got.length < (b.drop 33).length := by omega
      refine ⟨(b.drop 33).take (803 - got.length), (b.drop 33)[803 - got.length], (b.drop 33).drop (803 - got.length + 1), ?_, ?_⟩
      · rw [← List.drop_eq_getElem_cons hi, List.take_append_drop]
      · rw [List.length_take_of_le (by omega)]; omega
    have hfull : cand = got.reverse ++ (l ++ [x]) := by
      have happ : got.reverse ++ (l ++ x :: m) = (got.reverse ++ (l ++ [x])) ++ m := by simp
      rw [hc, hsplit, happ, List.take_left' (by simp; omega)]
    have hclen : cand.length = 804 := by rw [hfull]; simp; omega
    have e : s.emitFrame.scanFrame (some b) =
        (s.emitFrame.withScan (.taking (l.reverse ++ got)) s.discarded).judgeCandidate cand.reverse := by
      rw [State.scanFrame_some s hb, hs, hsplit, State.scanBytes_complete _ _ _ _ _ _ hlen (fun h => hfull ▸ hbeg h) (hfull ▸ huncut),
        hfull]
      simp
    obtain ⟨k1, k2, k3, k4⟩ := s.framePeriod_scan (some b) h
    rw [k1, k2, k3, k4, e]
    exact State.judgeCandidate_shows _ hclen

/-- R8: where no candidate is under way, the first marker behind what is passed over begins one. -/
theorem framePeriod_seeking {s : State} {b : List Byte} (h : Option (List Byte)) (hb : b.length = 45) {w : List Byte} {off : Nat}
    (hx : (s.scan = .seeking ∧ off = 0) ∨ (s.scan = .passing off ∧ 0 < off ∧ off < 12)) (hw : w = b.drop (33 + off)) (t : State)
    (ht : t = s.framePeriod (some b) h) :
    (0xB4#8 ∉ w → t.scan = .seeking ∧ t.awaiting = s.awaiting ∧ t.owed.returned = s.owed.returned ∧
       t.discarded = s.discarded) ∧
    (∀ before cand, w = before ++ cand → 0xB4#8 ∉ before → cand.head? = some 0xB4#8 →
      (cand.length < 4 ∨ s.awaiting = some (wordAt cand 2) ∨ ∀ d ∈ s.discarded, d.number ≠ wordAt cand 2) →
      (∀ d ∈ s.discarded, ¬d.ShownBy cand) →
      t.scan = .taking cand.reverse ∧ t.awaiting = s.awaiting ∧ t.owed.returned = s.owed.returned ∧
        t.discarded = s.discarded) := by
  subst ht
  have hl : (b.drop 33).length = 12 := by simp [hb]
  have hx' : (s.scan = .seeking ∧ off = 0) ∨ (s.scan = .passing off ∧ 0 < off) := hx.imp_right fun h => ⟨h.1, h.2.1⟩
  have hoff : off ≤ (b.drop 33).length := by omega
  have hdrop : w = (b.drop 33).drop off := by rw [hw, List.drop_drop]
  refine ⟨fun hm => ?_, fun before cand hsplit hbefore hhead hbegin hshown => ?_⟩
  · obtain ⟨e1, -, e3⟩ := s.emitFrame.scanBytes_sought hx' hoff (before := w) (cand := []) (by simp [hdrop]) hm s.discarded
    rw [List.append_nil] at e1
    exact State.framePeriod_scanned hb (e1 ▸ e3) h
  · obtain ⟨e1, e2, e3⟩ := s.emitFrame.scanBytes_sought hx' hoff (hdrop ▸ hsplit) hbefore s.discarded
    obtain ⟨rest, rfl⟩ : ∃ rest, cand = 0xB4#8 :: rest := by
      cases cand with
      | nil => cases hhead
      | cons y rest => exact ⟨rest, by rw [Option.some.inj hhead]⟩
    have hlen := congrArg List.length e1
    rw [List.length_append, hl, List.length_cons] at hlen
    refine State.framePeriod_scanned hb ?_ h
    rw [e1, State.scanBytes_append, e3, State.scanBytes_cons, State.scanByte_marker, State.scanBytes_taking]
    · simp
    · simp only [List.length_singleton]; omega
    · intro _ h4
      simp only [List.length_singleton] at h4
      exact hbegin.resolve_left (by simp only [List.length_cons]; omega)
    · exact fun d hd hsh => absurd hsh (hshown d hd)

end Sys2Proof.Machine
end

section
/-! ## Discarded records met in a frame period (R8, R16) -/

namespace Sys2Proof.Machine

/-- Where a frame period's bytes `l` stand when the candidate is under way: `pre` of them have gone by, `got` is the candidate so far,
latest byte first, and `rest` is still to come. -/
structure State.Reaches (s : State) (x : Scan) (ds : List Discarded) (l pre got rest : List Byte) : Prop where
  split : l = pre ++ rest
  scanned : (s.withScan x ds).scanBytes pre = s.withScan (.taking got) ds

/-- R8, R16: a header that begins a discarded record, against that many positions passed over. -/
theorem State.Reaches.header {s : State} {x : Scan} {l pre got rest : List Byte} {ds early later : List Discarded} {d : Discarded}
    (h : s.Reaches x ds l pre got rest) (hds : ds = early ++ d :: later) (h4 : got.length < 4) (hl : 4 ≤ got.length + rest.length)
    (ha : s.awaiting ≠ some (wordAt (got.reverse ++ rest) 2)) (hd : d.number = wordAt (got.reverse ++ rest) 2)
    (he : ∀ y ∈ early, y.number ≠ d.number) {n : Nat} (hn : n + got.length = pre.length + max 4 d.bytes) :
    (s.withScan x ds).scanBytes l = (s.withScan (.passing n) later).scanBytes l := by
  have hsplit : l = (pre ++ rest.take (4 - got.length)) ++ rest.drop (4 - got.length) := by
    rw [List.append_assoc, List.take_append_drop, h.split]
  have hlen : (pre ++ rest.take (4 - got.length)).length = pre.length + (4 - got.length) := by
    rw [List.length_append, List.length_take_of_le (by omega)]
  have hleft : (s.withScan x ds).scanBytes l =
      (s.withScan (.passOver (d.bytes - 4)) later).scanBytes (rest.drop (4 - got.length)) := by
    rw [h.split, State.scanBytes_append, h.scanned, State.scanBytes_header s rest got hds h4 hl ha hd he]
  have hright : (s.withScan (.passing n) later).scanBytes l =
      (s.withScan (.passOver (d.bytes - 4)) later).scanBytes (rest.drop (4 - got.length)) := by
    have hrem : n - (pre.length + (4 - got.length)) = d.bytes - 4 := by omega
    conv_lhs => rw [hsplit]
    rw [State.scanBytes_append, State.scanBytes_passing s _ (by omega) (by rw [hlen]; omega), hlen, hrem]
  rw [hleft, hright]

/-- R8, R16: a marker where a discarded record was cut off, against the positions before it passed over. -/
theorem State.Reaches.cut {s : State} {x : Scan} {l pre got rest : List Byte} {ds early later : List Discarded} {d : Discarded}
    (h : s.Reaches x ds l pre got rest) (hds : ds = early ++ d :: later) {cand : List Byte} (hc : cand = (got.reverse ++ rest).take 804)
    (hbegin : got.length < 4 → s.awaiting = some (wordAt cand 2)) (hd : d.ShownBy cand) (hfirst : got.length ≤ d.bytes)
    (he : ∀ y ∈ early, y.number = d.number → y.bytes ≠ d.bytes)
    (hmin : ∀ y ∈ ds, y.ShownBy cand → got.length ≤ y.bytes → d.bytes ≤ y.bytes) {n : Nat}
    (hn : n + got.length = pre.length + d.bytes) :
    (s.withScan x ds).scanBytes l = (s.withScan (.passOver n) later).scanBytes l := by
  obtain ⟨hd4, hdn, hdb⟩ := hd
  have hdlt : d.bytes < cand.length := (List.getElem?_eq_some_iff.1 hdb).1
  have hclen : cand.length = min 804 (got.length + rest.length) := by rw [hc]; simp
  have hi : d.bytes - got.length < rest.length := by omega
  have hmark : rest[d.bytes - got.length]'hi = 0xB4#8 := by
    rw [hc, List.getElem?_take_of_lt (by omega), List.getElem?_append_right (by simpa using hfirst), List.length_reverse,
      List.getElem?_eq_getElem hi] at hdb
    exact Option.some.inj hdb
  have hrest : rest = rest.take (d.bytes - got.length) ++ 0xB4#8 :: rest.drop (d.bytes - got.length + 1) := by
    rw [← hmark, ← List.drop_eq_getElem_cons hi, List.take_append_drop]
  have hl1 : (rest.take (d.bytes - got.length)).length = d.bytes - got.length := List.length_take_of_le (by omega)
  have hcand : cand = (got.reverse ++ rest.take (d.bytes - got.length)) ++
      (0xB4#8 :: rest.drop (d.bytes - got.length + 1)).take (804 - d.bytes) := by
    have hkeep : (got.reverse ++ rest.take (d.bytes - got.length)).length = d.bytes := by
      rw [List.length_append, List.length_reverse, hl1]; omega
    rw [hc]
    conv_lhs => rw [hrest, ← List.append_assoc]
    rw [List.take_append, hkeep, List.take_of_length_le (by omega)]
  generalize hm : rest.drop (d.bytes - got.length + 1) = m at hrest hcand
  generalize rest.take (d.bytes - got.length) = l1 at hrest hcand hl1
  have hword : wordAt cand 2 = wordAt (got.reverse ++ l1) 2 := by
    rw [hcand, wordAt_append _ _ (by rw [List.length_append, List.length_reverse]; omega)]
  have huncut : ∀ y ∈ ds, y.ShownBy (got.reverse ++ l1) → y.bytes < got.length := by
    intro y hy hs
    by_contra hge
    have hlt : y.bytes < (got.reverse ++ l1).length := (List.getElem?_eq_some_iff.1 hs.2.2).1
    have hle := hmin y hy (hcand ▸ hs.append _) (by omega)
    rw [List.length_append, List.length_reverse] at hlt
    omega
  have hleft : (s.withScan x ds).scanBytes l = (s.withScan .seeking later).scanBytes (0xB4#8 :: m) := by
    rw [h.split, State.scanBytes_append, h.scanned, hrest]
    exact State.scanBytes_cut s l1 m got hds (by omega) hd4 (by omega) (fun h => hword ▸ hbegin h) (hword ▸ hdn) he huncut
  have hright : (s.withScan (.passOver n) later).scanBytes l = (s.withScan .seeking later).scanBytes (0xB4#8 :: m) := by
    have hlen : (pre ++ l1).length = n := by rw [List.length_append]; omega
    rw [h.split, hrest, ← List.append_assoc, State.scanBytes_append, State.scanBytes_passOver s (by omega), hlen, Nat.sub_self]
    rfl
  rw [hleft, hright]

/-- R8: the candidate that a frame period finds under way, or begins behind `off` bytes: where its bytes stand then. -/
theorem State.reaches_candidate {s : State} {x : Scan} {ds : List Discarded} {l : List Byte} (hl : l.length = 12) {first off : Nat}
    {cand : List Byte}
    (h : (∃ got, x = .taking got ∧ got.length < 804 ∧ cand = (got.reverse ++ l).take 804 ∧ first = got.length ∧ off = 0) ∨
      (∃ before, ((x = .seeking ∧ off = before.length) ∨
          ∃ left, x = .passing left ∧ 0 < left ∧ left < 12 ∧ off = left + before.length) ∧
        l.drop (off - before.length) = before ++ cand ∧ 0xB4#8 ∉ before ∧ cand.head? = some 0xB4#8 ∧ first = 0)) :
    ∃ pre got rest, s.Reaches x ds l pre got rest ∧ cand = (got.reverse ++ rest).take 804 ∧
      pre.length + first = off + got.length ∧ (first = got.length ∨ (first = 0 ∧ got.length = 1)) := by
  obtain ⟨got, rfl, -, hc, rfl, rfl⟩ | ⟨before, hx, hdrop, hb, hhead, rfl⟩ := h
  · exact ⟨[], got, l, ⟨rfl, rfl⟩, hc, by simp, .inl rfl⟩
  · obtain ⟨rest, rfl⟩ : ∃ rest, cand = 0xB4#8 :: rest := by
      cases cand with
      | nil => cases hhead
      | cons y rest => exact ⟨rest, by rw [Option.some.inj hhead]⟩
    have hx' : (x = .seeking ∧ off - before.length = 0) ∨ (x = .passing (off - before.length) ∧ 0 < off - before.length) := by
      obtain ⟨h1, h2⟩ | ⟨left, h1, h2, -, h4⟩ := hx
      · exact .inl ⟨h1, by omega⟩
      · have : off - before.length = left := by omega
        exact .inr ⟨by rw [this]; exact h1, by omega⟩
    have hoff : before.length ≤ off := by
      obtain ⟨-, h2⟩ | ⟨left, -, -, -, h4⟩ := hx <;> omega
    have hk : off - before.length ≤ l.length := by
      obtain ⟨h1, h2⟩ | ⟨left, h1, h2, h3, h4⟩ := hx <;> omega
    obtain ⟨e1, e2, e3⟩ := s.scanBytes_sought hx' hk hdrop hb ds
    have hlen := congrArg List.length e1
    rw [List.length_append, List.length_cons, hl] at hlen
    generalize l.take (off - before.length) ++ before = p at e1 e2 e3 hlen
    refine ⟨p ++ [0xB4#8], [0xB4#8], rest, ⟨by rw [e1]; simp, ?_⟩, ?_, ?_, .inr ⟨rfl, rfl⟩⟩
    · rw [State.scanBytes_append, e3, State.scanBytes_cons, State.scanByte_marker]; rfl
    · rw [List.take_of_length_le (by simp; omega)]; rfl
    · simp only [List.length_append, List.length_singleton]; omega

/-- Settles O9: the scan by its bytes, a candidate under way, a marker sought, and the discarded records that a candidate can be. -/
theorem candidateCompletesAt804Bytes : Obligations.CandidateCompletesAt804Bytes := by
  refine ⟨fun b i => by rw [wordAt, byteAt, byteAt, Nat.mul_comm], framePeriod_gap, fun s b h hr hb => ?_, fun s b h first off cand early d later hr hb hds hcase => ?_⟩
  · have hl : (b.drop 33).length = 12 := by simp [hb]
    refine ⟨s.framePeriod (some b) h, exec_framePeriod_of_ready hr _ h, fun left hs => ?_, fun left hs hle => ?_,
      fun got cand hs hlt hc hbegin huncut => framePeriod_taking h hb hs hlt hc hbegin huncut _ rfl,
      fun w off hx hw => framePeriod_seeking h hb hx hw _ rfl⟩
    · refine State.framePeriod_scanned hb ?_ h
      rw [hs, State.scanBytes_finished, hl]
    · refine State.framePeriod_scanned hb ?_ h
      have hif : (if left = 12 then Scan.seeking else .passing (left - 12)) = .passOver (left - 12) := by
        rw [Scan.passOver]
        by_cases h12 : left = 12
        · simp [h12]
        · rw [if_neg h12, if_neg (by omega)]
      rw [hs, State.scanBytes_passing _ _ (by omega) (by omega), hl, hif]
  · have hl : (b.drop 33).length = 12 := by simp [hb]
    obtain ⟨pre, got, rest, hreach, hc, hpre, hfirst⟩ := State.reaches_candidate (s := s.emitFrame) (x := s.scan) (ds := s.discarded) hl
      (first := first) (off := off) (cand := cand) <| hcase.imp_right fun ⟨before, hx, hdrop, hrest⟩ => by
        refine ⟨before, hx, ?_, hrest⟩
        have hoff : before.length ≤ off := by
          obtain ⟨-, h2⟩ | ⟨left, -, -, -, h4⟩ := hx <;> omega
        rw [List.drop_drop, ← hdrop]
        congr 1
        omega
    have hlen : pre.length + rest.length = 12 := by
      rw [← List.length_append, ← hreach.split, hl]
    have hclen : cand.length = min 804 (got.length + rest.length) := by rw [hc]; simp
    refine ⟨fun h1 h2 ha hd he => ?_, fun h1 hd h2 he hmin => ?_⟩
    · have hfull : cand = got.reverse ++ rest := by
        rw [hc, List.take_of_length_le (by simp; omega)]
      refine exec_framePeriod_scan_congr hr hb (hreach.header hds (by omega) (by omega) (hfull ▸ ha) (hfull ▸ hd) he ?_) h
      omega
    · have hif : (if off + d.bytes = first then Scan.seeking else .passing (off + d.bytes - first)) = .passOver (off + d.bytes - first) := by
        rw [Scan.passOver]
        by_cases h0 : off + d.bytes = first
        · simp [h0]
        · rw [if_neg h0, if_neg (by omega)]
      have hd4 := hd.1
      rw [hif]
      refine exec_framePeriod_scan_congr hr hb (hreach.cut hds hc (fun hlt => h1.resolve_left (by omega)) hd (by omega) he
        (fun y hy hs hle => hmin y hy hs (by omega)) ?_) h
      omega

end Sys2Proof.Machine
end

/-! # The seat table and presence: what every step keeps, and what the seat operations do -/


section
/-! ## Seats, channels and lists in agreement

The part of `State.FloorAgrees` that speaks of seats, channels and lists, which each operation of the floor keeps by itself: the floor
state and the agenda change beside them. -/

namespace Sys2Proof.Machine

/-- R72, R73, R77, R102: the seats' places, the channels' bindings and the two lists agree. A number that names no seat reads as a seat
off the floor, so that no range need be asked. -/
structure State.Seated (s : State) : Prop where
  seats : s.seats.length = 200
  bound : ∀ n c, (s.seat n).bound = some c ↔ ((s.chan c).state = .live ∧ (s.chan c).seat = some n)
  live : ∀ n, (s.seat n).place = .live ↔ (s.seat n).bound ≠ none
  listed : ∀ n, (s.seat n).place = .waiting ↔ n ∈ s.waiting.map WaitEntry.seat
  held : ∀ c, (s.chan c).state = .live ↔ (s.chan c).seat ≠ none
  speaks : ∀ e, e ∈ s.speakers ↔
    (e.chan.isOrdinary = true ∧ (s.chan e.chan).state = .live ∧ (s.chan e.chan).seat = some e.seat)
  speakersOnce : (s.speakers.map Speaker.chan).Nodup
  waitingOnce : (s.waiting.map WaitEntry.seat).Nodup

theorem State.FloorAgrees.seated {s : State} (h : s.FloorAgrees) : s.Seated := by
  have hheld : ∀ c, (s.chan c).state = .live ↔ (s.chan c).seat ≠ none := fun c => by
    obtain ⟨h1, h2⟩ := h.channels c (mem_allChans c)
    refine ⟨fun hl => ?_, fun hs => ?_⟩
    · obtain ⟨n, -, hn⟩ := h1 hl; simp [hn]
    · by_contra hl; exact hs (h2 hl).1
  have hrange : ∀ c n, (s.chan c).state = .live → (s.chan c).seat = some n → n ∈ seatNumbers := fun c n hl hs => by
    obtain ⟨m, hm, he⟩ := (h.channels c (mem_allChans c)).1 hl
    exact Option.some.inj (hs.symm.trans he) ▸ hm
  refine ⟨h.seats, fun n c => ?_, fun n => ?_, fun n => ?_, hheld, fun e => ?_, h.speakersOnce.1, h.waitingOnce.1⟩
  · by_cases hn : n ∈ seatNumbers
    · exact (h.places n hn).2.2 c (mem_allChans c)
    · rw [h.seat_range hn]
      exact ⟨fun hb => (nomatch hb), fun hc => absurd (hrange c n hc.1 hc.2) hn⟩
  · by_cases hn : n ∈ seatNumbers
    · exact (h.places n hn).1
    · rw [h.seat_range hn]; decide
  · by_cases hn : n ∈ seatNumbers
    · exact (h.places n hn).2.1
    · rw [h.seat_range hn]
      refine ⟨fun hw => (nomatch hw), fun hw => ?_⟩
      obtain ⟨e, he, rfl⟩ := List.mem_map.1 hw
      exact absurd (h.waitingOnce.2 e he) hn
  · constructor
    · intro he
      obtain ⟨ho, hn⟩ := h.speakersOnce.2 e he
      exact ⟨mem_ordinaryChans.1 ho, (h.speakers e.chan ho e.seat hn).1 he⟩
    · rintro ⟨ho, hl, hs⟩
      exact (h.speakers e.chan (mem_ordinaryChans.2 ho) e.seat (hrange _ _ hl hs)).2 ⟨hl, hs⟩

section
variable {s t : State}

/-- Only the places, the bindings and the lists are looked at. -/
theorem State.Seated.of_view (h : s.Seated) (hlen : t.seats.length = s.seats.length)
    (hseat : ∀ n, (t.seat n).place = (s.seat n).place ∧ (t.seat n).bound = (s.seat n).bound)
    (hchan : ∀ c, ((t.chan c).state = .live ↔ (s.chan c).state = .live) ∧ (t.chan c).seat = (s.chan c).seat)
    (hw : t.waiting = s.waiting) (hs : t.speakers = s.speakers) : t.Seated := by
  have hp := fun n => (hseat n).1
  have hb := fun n => (hseat n).2
  have h1 := fun c => (hchan c).1
  have h2 := fun c => (hchan c).2
  constructor
  · rw [hlen]; exact h.seats
  · simpa only [hb, h1, h2] using h.bound
  · simpa only [hb, hp] using h.live
  · simpa only [hp, hw] using h.listed
  · simpa only [h1, h2] using h.held
  · simpa only [h1, h2, hs] using h.speaks
  · rw [hs]; exact h.speakersOnce
  · rw [hw]; exact h.waitingOnce

/-- A seat is bound to one channel, and a channel to one seat. -/
theorem State.Seated.chan_unique (h : s.Seated) {n : Nat} {c d : Chan} (hc : (s.chan c).seat = some n) (hd : (s.chan d).seat = some n) :
    c = d := by
  have hbound : ∀ c, (s.chan c).seat = some n → (s.seat n).bound = some c := fun c hc =>
    (h.bound n c).2 ⟨(h.held c).2 (by simp [hc]), hc⟩
  exact Option.some.inj ((hbound c hc).symm.trans (hbound d hd))

theorem State.Seated.bound_of_seat (h : s.Seated) {n : Nat} {c : Chan} (hc : (s.chan c).seat = some n) : (s.seat n).bound = some c :=
  (h.bound n c).2 ⟨(h.held c).2 (by simp [hc]), hc⟩

theorem State.Seated.not_live (h : s.Seated) {n : Nat} (hn : (s.seat n).place ≠ .live) : (s.seat n).bound = none := by
  by_contra hb
  exact hn ((h.live n).2 hb)

theorem State.Seated.not_listed (h : s.Seated) {n : Nat} (hn : (s.seat n).place ≠ .waiting) : ∀ e ∈ s.waiting, e.seat ≠ n :=
  fun e he hen => hn ((h.listed n).2 (List.mem_map.2 ⟨e, he, hen⟩))

end

/-! ### The elementary updates -/

theorem mem_seats_filter (l : List WaitEntry) (n m : Nat) :
    m ∈ (l.filter fun e => e.seat != n).map WaitEntry.seat ↔ m ≠ n ∧ m ∈ l.map WaitEntry.seat := by
  simp only [List.mem_map, List.mem_filter, bne_iff_ne]
  exact ⟨fun ⟨e, ⟨he, hne⟩, hm⟩ => ⟨hm ▸ hne, e, he, hm⟩, fun ⟨hne, e, he, hm⟩ => ⟨e, ⟨he, hm ▸ hne⟩, hm⟩⟩

/-- A seat set off the floor, whether the number names one or not. -/
theorem State.seat_setPlace_idle (s : State) (n m : Nat) :
    (s.setPlace n .idle none).seat m = if m = n then { s.seat m with place := .idle, bound := none } else s.seat m := by
  by_cases hm : m = n
  · subst hm
    rw [if_pos rfl]
    by_cases hr : 1 ≤ m ∧ m ≤ s.seats.length
    · exact s.seat_setPlace_same _ _ hr.1 hr.2
    · have ho : m = 0 ∨ s.seats.length < m := by omega
      rw [State.setPlace, State.updSeat_out _ _ ho, State.seat_out _ ho]; rfl
  · rw [if_neg hm, State.seat_setPlace_ne _ _ _ hm]

theorem State.removeWaiting_seat (s : State) (n m : Nat) (r : Reason) :
    (s.removeWaiting n r).seat m = if m = n then { s.seat m with place := .idle, bound := none } else s.seat m := by
  rw [State.removeWaiting, State.seat_raise, State.seat_setPlace_idle]; rfl

theorem State.release_place (s : State) (c : Chan) (n m : Nat) (r : Reason) :
    ((s.release c n r).seat m).place = (if m = n then .idle else (s.seat m).place) ∧
      ((s.release c n r).seat m).bound = if m = n then none else (s.seat m).bound := by
  by_cases hm : m = n
  · subst hm
    by_cases hr : 1 ≤ m ∧ m ≤ s.seats.length
    · simp [State.release_seat_same s c r hr.1 hr.2]
    · have hl : (s.release c m r).seats.length = s.seats.length := State.frozen_length (by simp)
      rw [State.seat_out (s.release c m r) (by omega)]; simp [Seat.reset]
  · simp [State.release_seat_ne s c r hm, hm]

theorem State.Seated.removeWaiting {s : State} (h : s.Seated) {n : Nat} (hn : (s.seat n).place ≠ .live) (r : Reason) :
    (s.removeWaiting n r).Seated := by
  obtain ⟨hw, hs, -, hc, -⟩ := s.removeWaiting_lists n r
  have hchan : ∀ c, (s.removeWaiting n r).chan c = s.chan c := fun c => by rw [State.chan, hc]; rfl
  have hbound : ∀ m, ((s.removeWaiting n r).seat m).bound = (s.seat m).bound := fun m => by
    rw [State.removeWaiting_seat]
    split
    · next hm => subst hm; exact (h.not_live hn).symm
    · rfl
  have hplace : ∀ m, ((s.removeWaiting n r).seat m).place = if m = n then .idle else (s.seat m).place := fun m => by
    rw [State.removeWaiting_seat]; split <;> rfl
  refine ⟨(State.frozen_length (by simp)).trans h.seats, fun m c => ?_, fun m => ?_, fun m => ?_, fun c => ?_, fun e => ?_, ?_, ?_⟩
  · rw [hbound, hchan]; exact h.bound m c
  · rw [hplace, hbound, ← h.live]
    split
    · next hm => subst hm; simp [hn]
    · rfl
  · rw [hplace, hw, mem_seats_filter, ← h.listed]
    by_cases hm : m = n <;> simp [hm]
  · rw [hchan]; exact h.held c
  · rw [hs, hchan]; exact h.speaks e
  · rw [hs]; exact h.speakersOnce
  · rw [hw]; exact h.waitingOnce.sublist (List.filter_sublist.map _)

theorem State.Seated.insertWaiting {s : State} (h : s.Seated) {n : Nat} (hr : n ∈ seatNumbers) (hn : (s.seat n).place = .idle) (k : Nat)
    {i : Nat} (hi : i ≤ s.waiting.length) : (s.insertWaiting n k i).Seated := by
  obtain ⟨hr1, hr2⟩ := mem_seatNumbers.1 hr
  obtain ⟨hw, hs, -, hc, -⟩ := s.insertWaiting_lists n k i
  have hchan : ∀ c, (s.insertWaiting n k i).chan c = s.chan c := fun c => by rw [State.chan, hc]; rfl
  have hseat : ∀ m, (s.insertWaiting n k i).seat m = if m = n then { s.seat m with place := .waiting, bound := none } else s.seat m :=
    fun m => by
      split
      · next hm => subst hm; exact s.insertWaiting_seat_same k i hr1 (h.seats ▸ hr2)
      · next hm => exact s.insertWaiting_seat_ne k i hm
  have hidle : (s.seat n).bound = none := h.not_live (by simp [hn])
  have hbound : ∀ m, ((s.insertWaiting n k i).seat m).bound = (s.seat m).bound := fun m => by
    rw [hseat]; split
    · next hm => subst hm; exact hidle.symm
    · rfl
  have hplace : ∀ m, ((s.insertWaiting n k i).seat m).place = if m = n then .waiting else (s.seat m).place := fun m => by
    rw [hseat]; split <;> rfl
  have hperm := List.perm_insertIdx ({ seat := n, sweep := k } : WaitEntry) s.waiting hi
  refine ⟨(State.frozen_length (by simp)).trans h.seats, fun m c => ?_, fun m => ?_, fun m => ?_, fun c => ?_, fun e => ?_, ?_, ?_⟩
  · rw [hbound, hchan]; exact h.bound m c
  · rw [hplace, hbound, ← h.live]
    split
    · next hm => subst hm; simp [hn]
    · rfl
  · rw [hplace, hw, (hperm.map _).mem_iff, List.map_cons, List.mem_cons, ← h.listed]
    by_cases hm : m = n <;> simp [hm]
  · rw [hchan]; exact h.held c
  · rw [hs, hchan]; exact h.speaks e
  · rw [hs]; exact h.speakersOnce
  · rw [hw, (hperm.map _).nodup_iff, List.map_cons, List.nodup_cons]
    exact ⟨fun hm => by simp [(h.listed n).2 hm] at hn, h.waitingOnce⟩

/-- R107: the End of a LIVE channel takes its seat off the floor. -/
theorem State.Seated.release {s : State} (h : s.Seated) {c : Chan} {n : Nat} (hc : (s.chan c).seat = some n) (r : Reason) :
    (s.release c n r).Seated := by
  obtain ⟨hw, hs, -⟩ := s.release_lists c n r
  have hb := h.bound_of_seat hc
  have hlive : (s.seat n).place = .live := (h.live n).2 (by simp [hb])
  have hplace := fun m => (s.release_place c n m r).1
  have hbound := fun m => (s.release_place c n m r).2
  have hstate : ∀ d, ((s.release c n r).chan d).state = if d = c then .releasing else (s.chan d).state := fun d => by
    split
    · next hd => subst hd; rw [State.release_chan_same]
    · next hd => rw [State.release_chan_ne _ _ _ hd]
  have hseat : ∀ d, ((s.release c n r).chan d).seat = if d = c then none else (s.chan d).seat := fun d => by
    split
    · next hd => subst hd; rw [State.release_chan_same]
    · next hd => rw [State.release_chan_ne _ _ _ hd]
  refine ⟨(State.frozen_length (by simp)).trans h.seats, fun m d => ?_, fun m => ?_, fun m => ?_, fun d => ?_, fun e => ?_, ?_, ?_⟩
  · rw [hbound, hstate, hseat]
    have hcm : (s.chan c).seat = some m → m = n := fun hm => Option.some.inj (hm.symm.trans hc)
    by_cases hm : m = n
    · subst hm
      by_cases hd : d = c
      · simp [hd]
      · simpa [hd] using fun _ hs => hd (h.chan_unique hs hc)
    · by_cases hd : d = c
      · subst hd; simp only [hm, if_false, if_true, h.bound]; simp [hc, Ne.symm hm]
      · simpa [hm, hd] using h.bound m d
  · rw [hplace, hbound]
    split
    · simp
    · exact h.live m
  · rw [hplace, hw, ← h.listed]
    split
    · next hm => subst hm; simp [hlive]
    · rfl
  · rw [hstate, hseat]
    split
    · simp
    · exact h.held d
  · rw [hs, hstate, hseat]
    by_cases he : e.chan = c
    · subst he
      by_cases ho : e.chan.isOrdinary = true
      · simp [ho]
      · simp [ho, h.speaks]
    · rw [if_neg he, if_neg he, ← h.speaks]
      split <;> simp [he]
  · rw [hs]
    split
    · exact h.speakersOnce.sublist (List.filter_sublist.map _)
    · exact h.speakersOnce
  · rw [hw]; exact h.waitingOnce

theorem State.leaveSilently_not_listed {s : State} {n : Nat} (h : ∀ e ∈ s.waiting, e.seat ≠ n) : s.leaveSilently n = s := by
  have : s.waiting.filter (fun e => e.seat != n) = s.waiting := List.filter_eq_self.2 fun e he => by simpa using h e he
  unfold State.leaveSilently
  rw [this]

/-- R104: a Grant of a channel that is not LIVE to a seat that is not, which leaves the list if it waits. -/
theorem State.Seated.grant {s : State} (h : s.Seated) {c : Chan} {n : Nat} (hr : n ∈ seatNumbers) (hn : (s.seat n).place ≠ .live)
    (hc : (s.chan c).state ≠ .live) (l : Bool) : ((s.leaveSilently n).grant c n l).Seated := by
  obtain ⟨hr1, hr2⟩ := mem_seatNumbers.1 hr
  obtain ⟨hw, hs, -, -⟩ := (s.leaveSilently n).grant_lists c n l
  rw [State.leaveSilently_speakers] at hs
  have hseat : ∀ m, ((s.leaveSilently n).grant c n l).seat m =
      if m = n then { s.seat m with place := .live, bound := some c } else s.seat m := fun m => by
    split
    · next hm => subst hm; rw [State.grant_seat_same _ c l hr1 (h.seats ▸ hr2), State.seat_leaveSilently]
    · next hm => rw [State.grant_seat_ne _ c l hm, State.seat_leaveSilently]
  have hplace : ∀ m, (((s.leaveSilently n).grant c n l).seat m).place = if m = n then .live else (s.seat m).place := fun m => by
    rw [hseat]; split <;> rfl
  have hbound : ∀ m, (((s.leaveSilently n).grant c n l).seat m).bound = if m = n then some c else (s.seat m).bound := fun m => by
    rw [hseat]; split <;> rfl
  have hstate : ∀ d, (((s.leaveSilently n).grant c n l).chan d).state = if d = c then .live else (s.chan d).state := fun d => by
    split
    · next hd => subst hd; rw [State.grant_chan_same]
    · next hd => rw [State.grant_chan_ne _ _ _ hd, State.chan_leaveSilently]
  have hcseat : ∀ d, (((s.leaveSilently n).grant c n l).chan d).seat = if d = c then some n else (s.chan d).seat := fun d => by
    split
    · next hd => subst hd; rw [State.grant_chan_same]
    · next hd => rw [State.grant_chan_ne _ _ _ hd, State.chan_leaveSilently]
  have hunbound : (s.seat n).bound = none := h.not_live hn
  have hwait : (s.leaveSilently n).waiting = s.waiting.filter fun e => e.seat != n := rfl
  have hfresh : c ∉ s.speakers.map Speaker.chan := fun hm => by
    obtain ⟨e, he, rfl⟩ := List.mem_map.1 hm
    exact hc ((h.speaks e).1 he).2.1
  refine ⟨(State.frozen_length (by simp)).trans h.seats, fun m d => ?_, fun m => ?_, fun m => ?_, fun d => ?_, fun e => ?_, ?_, ?_⟩
  · rw [hbound, hstate, hcseat]
    by_cases hm : m = n
    · subst hm
      by_cases hd : d = c
      · simp [hd]
      · have := h.bound m d
        simp only [hunbound] at this
        simp [hd, Ne.symm hd]
        simpa using this
    · by_cases hd : d = c
      · subst hd; simp [hm, h.bound, hc, Ne.symm hm]
      · simpa [hm, hd] using h.bound m d
  · rw [hplace, hbound]
    split
    · simp
    · exact h.live m
  · rw [hplace, hw, hwait, mem_seats_filter, ← h.listed]
    by_cases hm : m = n <;> simp [hm]
  · rw [hstate, hcseat]
    split
    · simp
    · exact h.held d
  · rw [hs, hstate, hcseat]
    by_cases he : e.chan = c
    · subst he
      have hnot : e ∉ s.speakers := fun hm => hfresh (List.mem_map_of_mem hm)
      by_cases ho : e.chan.isOrdinary = true
      · obtain ⟨d, m⟩ := e
        simp [ho, hnot, eq_comm]
      · simp [ho, hnot]
    · have hne : e ≠ { chan := c, seat := n } := fun hh => he (by rw [hh])
      rw [if_neg he, if_neg he, ← h.speaks]
      split <;> simp [hne]
  · rw [hs]
    split
    · rw [List.map_append, List.nodup_append]
      exact ⟨h.speakersOnce, by simp, fun a ha b hb => by simp at hb; subst hb; exact fun hab => hfresh (hab ▸ ha)⟩
    · exact h.speakersOnce
  · rw [hw, hwait]; exact h.waitingOnce.sublist (List.filter_sublist.map _)

end Sys2Proof.Machine
end

section
/-! ## The fitness of the seats on the floor (R74, R77, R80, R123) -/

namespace Sys2Proof.Machine

/-! ### What the floor's operations leave of a seat's rights -/

section
variable {s t : State} (h : t.frozen = s.frozen)
include h

theorem State.config_of_frozen (n : Nat) : (t.seat n).config = (s.seat n).config :=
  (congrArg Seat.config (State.frozen_seat h n) : _)

theorem State.present_of_frozen (n : Nat) : (t.seat n).present = (s.seat n).present :=
  (congrArg Seat.present (State.frozen_seat h n) : _)

theorem State.flagged_of_frozen (n : Nat) : (t.seat n).flagged = (s.seat n).flagged :=
  (congrArg Seat.flagged (State.frozen_seat h n) : _)

theorem State.armed_of_frozen (n : Nat) : (t.seat n).armed = (s.seat n).armed :=
  (congrArg Seat.armed (State.frozen_seat h n) : _)

theorem State.eligible_of_frozen (n : Nat) : t.eligible n = s.eligible n := by
  simp only [State.eligible, State.admitted, State.classOf, State.config_of_frozen h, State.present_of_frozen h,
    State.flagged_of_frozen h, State.active_of_frozen h]

theorem State.entitledChair_of_frozen (n : Nat) : t.entitledChair n = s.entitledChair n := by
  simp only [State.entitledChair, State.isChair, State.classOf, State.config_of_frozen h, State.present_of_frozen h,
    State.flagged_of_frozen h]

end

/-- R80: an eligible seat is one of the 200. -/
theorem State.range_of_eligible {s : State} {n : Nat} (hl : s.seats.length = 200) (h : s.eligible n = true) : n ∈ seatNumbers := by
  by_contra hn
  rw [mem_seatNumbers] at hn
  have ho := State.seat_out s (n := n) (by omega)
  simp [State.eligible, ho, Seat.reset, SeatConfig.reset] at h

/-- R124: an entitled chair is one of the 200. -/
theorem State.range_of_entitledChair {s : State} {n : Nat} (hl : s.seats.length = 200) (h : s.entitledChair n = true) :
    n ∈ seatNumbers := by
  by_contra hn
  rw [mem_seatNumbers] at hn
  have ho := State.seat_out s (n := n) (by omega)
  simp [State.entitledChair, ho, Seat.reset, SeatConfig.reset] at h

/-! ### A floor in order but for some seats -/

/-- R33, R46, R124: no seat is present while the trunk is DOWN, and only an entitled chair is armed. -/
structure State.Guarded (s : State) : Prop where
  absent : s.trunk = .down → ∀ n, (s.seat n).present = false
  armed : ∀ n, (s.seat n).armed = true → s.entitledChair n = true

/-- The seats, channels and lists agree and every seat on the floor is fit for its place, but for the seats `lw` that may wait and the
seats `le` that may hold a channel without being fit: those that an operation under way has still to take off the floor. -/
structure State.Orderly (s : State) (lw le : List Nat) : Prop where
  seated : s.Seated
  waiting : ∀ e ∈ s.waiting, e.seat ∉ lw → s.eligible e.seat = true
  speakers : ∀ e ∈ s.speakers, e.seat ∉ le → s.eligible e.seat = true
  holder : ∀ n, (s.chan .p).seat = some n → n ∉ le → s.entitledChair n = true
  capacity : ∀ c, s.active = some c → s.waiting.length ≤ c.capacity
  maxLive : ∀ c, s.active = some c → s.speakers.length ≤ c.maxLive
  guarded : s.Guarded

theorem State.FloorFits.orderly {s : State} (ha : s.FloorAgrees) (h : s.FloorFits) : s.Orderly [] [] := by
  have hs := ha.seated
  have hout : ∀ n, n ∉ seatNumbers → s.seat n = Seat.reset := fun n hn => ha.seat_range hn
  have hfit : ∀ n, s.SeatFits n := fun n => by
    by_cases hn : n ∈ seatNumbers
    · exact h.seats n hn
    · simp [State.SeatFits, hout n hn, Seat.reset]
  refine ⟨hs, fun e he _ => ?_, fun e he _ => ?_, fun n hn _ => ?_, h.waiting, h.speakers,
    fun hd n => ?_, fun n hn => ?_⟩
  · exact (hfit e.seat).1 ((hs.listed _).2 (List.mem_map_of_mem he))
  · obtain ⟨ho, hl, hc⟩ := (hs.speaks e).1 he
    have hb := hs.bound_of_seat hc
    refine (hfit e.seat).2.1 ((hs.live _).2 (by simp [hb])) fun hp => ?_
    rw [Option.some.inj (hb.symm.trans hp)] at ho
    cases ho
  · exact (hfit n).2.2 (hs.bound_of_seat hn)
  · by_cases hn : n ∈ seatNumbers
    · exact h.absent hd n hn
    · rw [hout n hn]; rfl
  · by_cases hr : n ∈ seatNumbers
    · exact h.armed n hr hn
    · rw [hout n hr] at hn; cases hn

theorem State.Orderly.floorFits {s : State} (h : s.Orderly [] []) : s.FloorFits := by
  refine ⟨fun n _ => ⟨fun hw => ?_, fun hl hp => ?_, fun hp => ?_⟩, h.capacity, h.maxLive,
    fun hd n _ => h.guarded.absent hd n, fun n _ => h.guarded.armed n⟩
  · obtain ⟨e, he, rfl⟩ := List.mem_map.1 ((h.seated.listed n).1 hw)
    exact h.waiting e he (by simp)
  · obtain ⟨c, hc⟩ := Option.ne_none_iff_exists'.1 ((h.seated.live n).1 hl)
    obtain ⟨hcl, hcs⟩ := (h.seated.bound n c).1 hc
    have ho : c.isOrdinary = true := by
      rw [hc] at hp
      simpa [Chan.isOrdinary] using hp
    exact h.speakers { chan := c, seat := n } ((h.seated.speaks _).2 ⟨ho, hcl, hcs⟩) (by simp)
  · exact h.holder n ((h.seated.bound n .p).1 hp).2 (by simp)

section
variable {s t : State} {lw le : List Nat}

/-- Fewer seats need be excused than are. -/
theorem State.Orderly.mono (h : s.Orderly lw le) {lw' le' : List Nat} (hw : ∀ e ∈ s.waiting, e.seat ∈ lw → e.seat ∈ lw')
    (he : ∀ n, (s.seat n).bound ≠ none → n ∈ le → n ∈ le') : s.Orderly lw' le' := by
  refine ⟨h.seated, fun e h1 h2 => h.waiting e h1 fun h3 => h2 (hw e h1 h3), fun e h1 h2 => h.speakers e h1 fun h3 => h2 (he _ ?_ h3),
    fun n h1 h2 => h.holder n h1 fun h3 => h2 (he n ?_ h3), h.capacity, h.maxLive, h.guarded⟩
  · rw [h.seated.bound_of_seat ((h.seated.speaks e).1 h1).2.2]; simp
  · rw [h.seated.bound_of_seat h1]; simp

/-- An update that takes nobody's rights away and leaves the floor as it is. -/
theorem State.Orderly.of_rights (h : s.Orderly lw le) (ht : t.Seated) (hw : t.waiting = s.waiting) (hs : t.speakers = s.speakers)
    (hp : (t.chan .p).seat = (s.chan .p).seat) (ha : t.agenda = s.agenda) (he : ∀ n, s.eligible n = true → t.eligible n = true)
    (hc : ∀ n, s.entitledChair n = true → t.entitledChair n = true) (hg : t.Guarded) : t.Orderly lw le := by
  have hactive : t.active = s.active := by rw [State.active, ha]; rfl
  refine ⟨ht, fun e h1 h2 => he _ (h.waiting e (hw ▸ h1) h2), fun e h1 h2 => he _ (h.speakers e (hs ▸ h1) h2),
    fun n h1 h2 => hc n (h.holder n (hp ▸ h1) h2), ?_, ?_, hg⟩
  · rw [hactive, hw]; exact h.capacity
  · rw [hactive, hs]; exact h.maxLive

/-- An operation of the floor: what it makes of the two lists and of channel P. -/
theorem State.Orderly.of_frozen (h : s.Guarded) (hf : t.frozen = s.frozen) (ht : t.Seated)
    (hw : ∀ e ∈ t.waiting, e.seat ∉ lw → s.eligible e.seat = true) (hs : ∀ e ∈ t.speakers, e.seat ∉ le → s.eligible e.seat = true)
    (hp : ∀ n, (t.chan .p).seat = some n → n ∉ le → s.entitledChair n = true)
    (hcap : ∀ c, s.active = some c → t.waiting.length ≤ c.capacity)
    (hmax : ∀ c, s.active = some c → t.speakers.length ≤ c.maxLive) : t.Orderly lw le := by
  have htrunk : t.trunk = s.trunk := (congrArg (fun u : State => u.trunk) hf : _)
  refine ⟨ht, ?_, ?_, ?_, ?_, ?_, ?_, ?_⟩
  · simpa only [State.eligible_of_frozen hf] using hw
  · simpa only [State.eligible_of_frozen hf] using hs
  · simpa only [State.entitledChair_of_frozen hf] using hp
  · simpa only [State.active_of_frozen hf] using hcap
  · simpa only [State.active_of_frozen hf] using hmax
  · simpa only [htrunk, State.present_of_frozen hf] using h.absent
  · simpa only [State.armed_of_frozen hf, State.entitledChair_of_frozen hf] using h.armed

/-- An update that the floor does not show: one of the message unit, of the steps due, of lockouts, of a channel's time. -/
theorem State.Orderly.of_same (h : s.Orderly lw le) (hf : t.frozen = s.frozen)
    (hseat : ∀ n, (t.seat n).place = (s.seat n).place ∧ (t.seat n).bound = (s.seat n).bound)
    (hchan : ∀ c, ((t.chan c).state = .live ↔ (s.chan c).state = .live) ∧ (t.chan c).seat = (s.chan c).seat)
    (hw : t.waiting = s.waiting) (hs : t.speakers = s.speakers) : t.Orderly lw le := by
  refine State.Orderly.of_frozen h.guarded hf (h.seated.of_view (State.frozen_length hf) hseat hchan hw hs) ?_ ?_ ?_ ?_ ?_
  · rw [hw]; exact h.waiting
  · rw [hs]; exact h.speakers
  · rw [(hchan .p).2]; exact h.holder
  · rw [hw]; exact h.capacity
  · rw [hs]; exact h.maxLive

/-- An update of anything but the seats, the channels, the agenda, the trunk state and the two lists. -/
theorem State.Orderly.of_eq (h : s.Orderly lw le) (e1 : t.seats = s.seats := by rfl) (e2 : t.channels = s.channels := by rfl)
    (e3 : t.agenda = s.agenda := by rfl) (e4 : t.trunk = s.trunk := by rfl) (e5 : t.waiting = s.waiting := by rfl)
    (e6 : t.speakers = s.speakers := by rfl) : t.Orderly lw le := by
  have hseat : ∀ n, t.seat n = s.seat n := State.seat_congr e1
  have hchan : ∀ c, t.chan c = s.chan c := fun c => by rw [State.chan, e2]; rfl
  have hactive : t.active = s.active := by rw [State.active, e3]; rfl
  refine h.of_rights (h.seated.of_view (by rw [e1]) (by simp [hseat]) (by simp [hchan]) e5 e6) e5 e6 (by rw [hchan]) e3 ?_ ?_ ⟨?_, ?_⟩
  · simp [State.eligible, State.admitted, State.classOf, hseat, hactive]
  · simp [State.entitledChair, State.isChair, State.classOf, hseat]
  · simpa [hseat, e4] using h.guarded.absent
  · simpa [State.entitledChair, State.isChair, State.classOf, hseat] using h.guarded.armed

theorem State.Orderly.raise (h : s.Orderly lw le) (x : Notice) : (s.raise x).Orderly lw le :=
  h.of_eq (by simp) (by simp) (by simp) (by simp) (by simp) (by simp)

theorem State.frozen_raiseAll (s : State) (l : List Notice) : (s.raiseAll l).frozen = s.frozen := State.frozen_foldl _ (by simp) l s

theorem State.Orderly.raiseAll (h : s.Orderly lw le) (l : List Notice) : (s.raiseAll l).Orderly lw le := by
  induction l generalizing s with
  | nil => exact h
  | cons x l ih => exact ih (h.raise x)

/-- A channel's time and warned mark, which no place depends on. -/
theorem State.Orderly.setChan (h : s.Orderly lw le) (c : Chan) {r : Channel} (h1 : r.state = .live ↔ (s.chan c).state = .live)
    (h2 : r.seat = (s.chan c).seat) : (s.setChan c r).Orderly lw le :=
  h.of_same (s.frozen_setChan c r) (by simp) (fun d => by
    by_cases hd : d = c
    · subst hd; rw [State.chan_setChan_same]; exact ⟨h1, h2⟩
    · rw [State.chan_setChan_ne _ _ hd]; exact ⟨Iff.rfl, rfl⟩) rfl rfl

/-! ### The waiting list, Grant and End -/

theorem State.Orderly.removeWaiting {n : Nat} (h : s.Orderly (n :: lw) le) (hn : (s.seat n).place ≠ .live) (r : Reason) :
    (s.removeWaiting n r).Orderly lw le := by
  obtain ⟨hw, hs, -, hc, -⟩ := s.removeWaiting_lists n r
  refine State.Orderly.of_frozen h.guarded (by simp) (h.seated.removeWaiting hn r) (fun e he hl => ?_) ?_ ?_ (fun c hc => ?_) ?_
  · rw [hw, List.mem_filter] at he
    exact h.waiting e he.1 (by simpa [hl] using he.2)
  · rw [hs]; exact h.speakers
  · rw [State.chan, hc]; exact h.holder
  · rw [hw]; exact (List.length_filter_le _ _).trans (h.capacity c hc)
  · rw [hs]; exact h.maxLive

theorem State.Orderly.insertWaiting {n : Nat} (h : s.Orderly lw le) (hn : (s.seat n).place = .idle) (he : s.eligible n = true)
    (hcap : ∀ c, s.active = some c → s.waiting.length < c.capacity) (k : Nat) {i : Nat} (hi : i ≤ s.waiting.length) :
    (s.insertWaiting n k i).Orderly lw le := by
  obtain ⟨hw, hs, -, hc, -⟩ := s.insertWaiting_lists n k i
  refine State.Orderly.of_frozen h.guarded (by simp) (h.seated.insertWaiting (State.range_of_eligible h.seated.seats he) hn k hi) (fun e hm hl => ?_) ?_ ?_
    (fun c ha => ?_) ?_
  · rw [hw] at hm
    obtain rfl | hm := List.eq_or_mem_of_mem_insertIdx hm
    · exact he
    · exact h.waiting e hm hl
  · rw [hs]; exact h.speakers
  · rw [State.chan, hc]; exact h.holder
  · rw [hw, List.length_insertIdx_of_le_length hi]; exact hcap c ha
  · rw [hs]; exact h.maxLive

/-- R104: a Grant of an ordinary channel where there is room, to an eligible seat. -/
theorem State.Orderly.grant {n : Nat} (h : s.Orderly lw le) (hn : (s.seat n).place ≠ .live) (he : s.eligible n = true) {c : Chan}
    (hr : s.room = some c) (l : Bool) : ((s.leaveSilently n).grant c n l).Orderly lw le := by
  obtain ⟨ho, hfree, hbelow⟩ := State.room_free hr
  obtain ⟨hw, hs, -, -⟩ := (s.leaveSilently n).grant_lists c n l
  have hlen : (s.leaveSilently n).waiting.length ≤ s.waiting.length := List.length_filter_le _ _
  have hp : (((s.leaveSilently n).grant c n l).chan .p).seat = (s.chan .p).seat := by
    rw [State.grant_chan_ne _ _ _ (fun hc => by rw [← hc] at ho; cases ho), State.chan_leaveSilently]
  refine State.Orderly.of_frozen h.guarded (by simp) (h.seated.grant (State.range_of_eligible h.seated.seats he) hn (by simp [hfree]) l) (fun e hm hl => ?_)
    (fun e hm hl => ?_) ?_ (fun x ha => ?_) (fun x ha => ?_)
  · rw [hw] at hm
    exact h.waiting e (List.mem_of_mem_filter hm) hl
  · rw [hs, if_pos ho, List.mem_append, List.mem_singleton] at hm
    obtain hm | rfl := hm
    · exact h.speakers e hm hl
    · exact he
  · rw [hp]; exact h.holder
  · rw [hw]; exact hlen.trans (h.capacity x ha)
  · rw [hs, if_pos ho, List.length_append]
    simp only [State.belowMaxLive, ha, decide_eq_true_eq] at hbelow
    exact hbelow

/-- R125: a Grant of channel P to an entitled chair. -/
theorem State.Orderly.grantPriority {n : Nat} (h : s.Orderly lw le) (hn : (s.seat n).place = .idle) (he : s.entitledChair n = true)
    (hp : (s.chan .p).state ≠ .live) (l : Bool) : (s.grant .p n l).Orderly lw le := by
  have hsilent : s.leaveSilently n = s := State.leaveSilently_not_listed (h.seated.not_listed (by simp [hn]))
  have ht := h.seated.grant (State.range_of_entitledChair h.seated.seats he) (by simp [hn]) hp l
  rw [hsilent] at ht
  obtain ⟨hw, hs, -, -⟩ := s.grant_lists .p n l
  refine State.Orderly.of_frozen h.guarded (by simp) ht ?_ ?_ (fun m hm _ => ?_) ?_ ?_
  · rw [hw]; exact h.waiting
  · rw [hs]; exact h.speakers
  · rw [State.grant_chan_same] at hm
    exact Option.some.inj hm ▸ he
  · rw [hw]; exact h.capacity
  · rw [hs]; exact h.maxLive

/-- R107: the End of a grant, whose seat need be excused no longer. -/
theorem State.Orderly.release {c : Chan} {n : Nat} (h : s.Orderly lw (n :: le)) (hc : (s.chan c).seat = some n) (r : Reason) :
    (s.release c n r).Orderly lw le := by
  obtain ⟨hw, hs, -⟩ := s.release_lists c n r
  have ht := h.seated.release hc r
  have hseat : ∀ d m, ((s.release c n r).chan d).seat = some m → (s.chan d).seat = some m ∧ m ≠ n := fun d m hm => by
    by_cases hd : d = c
    · subst hd; rw [State.release_chan_same] at hm; cases hm
    · rw [State.release_chan_ne _ _ _ hd] at hm
      exact ⟨hm, fun hn => hd (h.seated.chan_unique (hn ▸ hm) hc)⟩
  have hsub : ∀ e ∈ (s.release c n r).speakers, e ∈ s.speakers ∧ e.seat ≠ n := fun e he => by
    obtain ⟨h1, h2, h3⟩ := (ht.speaks e).1 he
    obtain ⟨h4, h5⟩ := hseat _ _ h3
    exact ⟨(h.seated.speaks e).2 ⟨h1, (h.seated.held _).2 (by simp [h4]), h4⟩, h5⟩
  refine State.Orderly.of_frozen h.guarded (by simp) ht ?_ (fun e he hl => ?_) (fun m hm hl => ?_) ?_ (fun x ha => ?_)
  · rw [hw]; exact h.waiting
  · obtain ⟨h1, h2⟩ := hsub e he
    exact h.speakers e h1 (by simp [h2, hl])
  · obtain ⟨h1, h2⟩ := hseat _ _ hm
    exact h.holder m h1 (by simp [h2, hl])
  · rw [hw]; exact h.capacity
  · refine le_trans ?_ (h.maxLive x ha)
    rw [hs]; split
    · exact List.length_filter_le _ _
    · exact le_rfl

theorem State.Orderly.excuse (h : s.Orderly lw le) (n : Nat) : s.Orderly lw (n :: le) :=
  h.mono (fun _ _ => id) fun _ _ => List.mem_cons_of_mem n

theorem State.Orderly.excuseWaiting (h : s.Orderly lw le) (n : Nat) : s.Orderly (n :: lw) le :=
  h.mono (fun _ _ => List.mem_cons_of_mem n) fun _ _ => id

end

end Sys2Proof.Machine
end

section
/-! ## The operations of the floor keep it in order -/

namespace Sys2Proof.Machine

/-! ### Fill (R88, R90) -/

/-- The head of the list leaves it alone, being listed once. -/
theorem State.Seated.leaveSilently_head {s : State} (h : s.Seated) {e : WaitEntry} {rest : List WaitEntry} (hw : s.waiting = e :: rest) :
    s.leaveSilently e.seat = { s with waiting := rest } := by
  have hnd := h.waitingOnce
  rw [hw, List.map_cons, List.nodup_cons] at hnd
  have hrest : rest.filter (fun x => x.seat != e.seat) = rest := List.filter_eq_self.2 fun x hx => by
    simpa using fun he : x.seat = e.seat => hnd.1 (he ▸ List.mem_map_of_mem hx)
  unfold State.leaveSilently
  rw [hw, List.filter_cons_of_neg (by simp), hrest]

/-- What grants from the head leave alone: channel P, every channel that is not FREE, and every seat that does not wait. -/
theorem State.grantHeads_keeps (k : Nat) (s : State) :
    (∀ c, c = .p ∨ (s.chan c).state ≠ .free → (State.grantHeads k s).chan c = s.chan c) ∧
      ∀ n, (∀ e ∈ s.waiting, e.seat ≠ n) → (State.grantHeads k s).seat n = s.seat n := by
  induction k generalizing s with
  | zero => exact ⟨fun _ _ => rfl, fun _ _ => rfl⟩
  | succ k ih =>
    unfold State.grantHeads
    split
    swap
    · exact ⟨fun _ _ => rfl, fun _ _ => rfl⟩
    next e rest c hw hr =>
    obtain ⟨ho, hfree, -⟩ := State.room_free hr
    obtain ⟨ih1, ih2⟩ := ih ({ s with waiting := rest }.grant c e.seat true)
    have hgrant : ∀ d, d = .p ∨ (s.chan d).state ≠ .free → ({ s with waiting := rest }.grant c e.seat true).chan d = s.chan d := by
      intro d hd
      have hne : d ≠ c := by
        rintro rfl
        rcases hd with rfl | hd
        · cases ho
        · exact hd hfree
      rw [State.grant_chan_ne _ _ _ hne]; rfl
    refine ⟨fun d hd => ?_, fun n hn => ?_⟩
    · rw [ih1 d (by rw [hgrant d hd]; exact hd), hgrant d hd]
    · rw [hw] at hn
      have hne : n ≠ e.seat := fun he => hn e List.mem_cons_self he.symm
      rw [ih2 n fun x hx => ?_, State.grant_seat_ne _ _ _ hne]
      · rfl
      · rw [(State.grant_lists _ _ _ _).1] at hx
        exact hn x (List.mem_cons_of_mem _ hx)

theorem State.fill_keeps (s : State) :
    (∀ c, c = .p ∨ (s.chan c).state ≠ .free → s.fill.chan c = s.chan c) ∧
      ∀ n, (∀ e ∈ s.waiting, e.seat ≠ n) → s.fill.seat n = s.seat n := by
  unfold State.fill
  split
  · exact s.grantHeads_keeps _
  · exact ⟨fun _ _ => rfl, fun _ _ => rfl⟩

/-- An End with its fill leaves channel P alone, and every other channel that is not FREE. -/
theorem State.endOrdinary_chan_ne (s : State) {c d : Chan} (n : Nat) (r : Reason) (h : d ≠ c)
    (hd : d = .p ∨ (s.chan d).state ≠ .free) : (s.endOrdinary c n r).chan d = s.chan d := by
  have hrel := s.release_chan_ne n r h
  rw [State.endOrdinary, (State.fill_keeps _).1 d (by rw [hrel]; exact hd), hrel]

/-- R107: a seat whose grant ends stays IDLE through the fill. -/
theorem State.Seated.endOrdinary_idle {s : State} (h : s.Seated) {c : Chan} {n : Nat} (hc : (s.chan c).seat = some n) (r : Reason) :
    ((s.endOrdinary c n r).seat n).place = .idle := by
  have hidle : ((s.release c n r).seat n).place = .idle := by rw [(s.release_place c n n r).1, if_pos rfl]
  rw [State.endOrdinary, (State.fill_keeps _).2 n ((h.release hc r).not_listed (by simp [hidle])), hidle]

section
variable {s : State} {le : List Nat}

theorem State.Orderly.grantHeads (k : Nat) (h : s.Orderly [] le) : (State.grantHeads k s).Orderly [] le := by
  induction k generalizing s with
  | zero => exact h
  | succ k ih =>
    unfold State.grantHeads
    split
    · next e rest c hw hr =>
      have hwait : (s.seat e.seat).place = .waiting := (h.seated.listed _).2 (by simp [hw])
      have hgrant := h.grant (by simp [hwait]) (h.waiting e (by simp [hw]) (by simp)) hr true
      rw [h.seated.leaveSilently_head hw] at hgrant
      exact ih hgrant
    · exact h

theorem State.Orderly.fill (h : s.Orderly [] le) : s.fill.Orderly [] le := by
  unfold State.fill
  split <;> [exact h.grantHeads _; exact h]

/-! ### Ends with their completion (R109, R131) -/

theorem State.Orderly.endOrdinary {c : Chan} {n : Nat} (h : s.Orderly [] (n :: le)) (hc : (s.chan c).seat = some n) (r : Reason) :
    (s.endOrdinary c n r).Orderly [] le := (h.release hc r).fill

/-- Grants of different channels, ended one after another, each with its fill. -/
theorem State.Orderly.endGrants (h : s.Orderly [] le) (r : Reason) {l : List Speaker} (hl : ∀ e ∈ l, (s.chan e.chan).seat = some e.seat)
    (hnd : (l.map Speaker.chan).Nodup) : (l.foldl (fun s e => s.endOrdinary e.chan e.seat r) s).Orderly [] le := by
  induction l generalizing s with
  | nil => exact h
  | cons e l ih =>
    rw [List.map_cons, List.nodup_cons] at hnd
    refine ih ((h.excuse e.seat).endOrdinary (hl e List.mem_cons_self) r) (fun x hx => ?_) hnd.2
    have hseat := hl x (List.mem_cons_of_mem e hx)
    have hlive : (s.chan x.chan).state = .live := (h.seated.held _).2 (by simp [hseat])
    have hne : x.chan ≠ e.chan := fun he => hnd.1 (he ▸ List.mem_map_of_mem hx)
    rw [State.endOrdinary_chan_ne s e.seat r hne (.inr (by simp [hlive])), hseat]

theorem State.Orderly.endSpeakers (h : s.Orderly [] le) (r : Reason) : (s.endSpeakers r).Orderly [] le :=
  h.endGrants r (fun e he => ((h.seated.speaks e).1 he).2.2) h.seated.speakersOnce

theorem State.Orderly.applyPriorityEnd (h : s.Orderly [] le) (e : PriorityEnd) : (s.applyPriorityEnd e).Orderly [] le := by
  cases e
  · exact h
  · exact h.endSpeakers _

theorem State.Orderly.endIntervention (h : s.Orderly [] le) (n : Nat) : (s.endIntervention n).Orderly [] le := by
  have hopen : { s with floor := .opened }.Orderly [] le := h.of_eq
  unfold State.endIntervention
  split
  · exact hopen
  · exact ((hopen.raise _).applyPriorityEnd _).fill

theorem State.Orderly.endPriority {n : Nat} (h : s.Orderly [] (n :: le)) (hn : (s.chan .p).seat = some n) (r : Reason) :
    (s.endPriority n r).Orderly [] le := (h.release hn r).endIntervention n

/-- R106: the seat's grant ends, if it has one; then it need be excused no longer. -/
theorem State.Orderly.endSeat {n : Nat} (h : s.Orderly [] (n :: le)) (r : Reason) : (s.endSeat n r).Orderly [] le := by
  unfold State.endSeat
  split
  · next hb =>
    refine h.mono (fun _ _ => id) fun m hm hmem => ?_
    obtain rfl | hmem := List.mem_cons.1 hmem
    · exact absurd hb hm
    · exact hmem
  · next hb => exact h.endPriority ((h.seated.bound n _).1 hb).2 r
  · next c _ hb => exact h.endOrdinary ((h.seated.bound n c).1 hb).2 r

theorem State.Orderly.endHolder (h : s.Orderly [] le) (r : Reason) : (s.endHolder r).Orderly [] le := by
  unfold State.endHolder
  split
  · next n _ hn => exact (h.excuse n).endPriority hn r
  · exact h

/-! ### Seats taken off the floor (R22, R32) -/

/-- Seats that hold no channel leave the list, one after another, and need be excused no longer. -/
theorem State.Orderly.removeSeats {l lw : List Nat} (h : s.Orderly (l ++ lw) le) (hl : ∀ n ∈ l, (s.seat n).place ≠ .live) (r : Reason) :
    (l.foldl (fun s n => s.removeWaiting n r) s).Orderly lw le := by
  induction l generalizing s with
  | nil => exact h
  | cons n l ih =>
    refine ih (State.Orderly.removeWaiting h (hl n List.mem_cons_self) r) fun m hm => ?_
    rw [State.removeWaiting_seat]
    split
    · simp
    · exact hl m (List.mem_cons_of_mem n hm)

theorem State.Orderly.endSeats {l : List Nat} (h : s.Orderly [] (l ++ le)) (r : Reason) :
    (l.foldl (fun s n => s.endSeat n r) s).Orderly [] le := by
  induction l generalizing s with
  | nil => exact h
  | cons n l ih => exact ih (State.Orderly.endSeat h r)

theorem State.Orderly.takeOff {l : List Nat} (h : s.Orderly l l) (r : Reason) : (s.takeOff l r).Orderly [] [] := by
  have hplaced : s.Orderly ((l.filter fun n => (s.seat n).place == .waiting) ++ [])
      ((l.filter fun n => (s.seat n).place == .live) ++ []) := by
    refine h.mono (fun e he hm => ?_) fun n hb hm => ?_
    · have := (h.seated.listed e.seat).2 (List.mem_map_of_mem he)
      simp [hm, this]
    · simp [hm, (h.seated.live n).2 hb]
  exact (hplaced.removeSeats (fun n hn => by rw [List.mem_filter] at hn; simp [beq_iff_eq.1 hn.2]) r).endSeats r

theorem State.Orderly.clearWaiting {lw : List Nat} (h : s.Orderly lw le) (r : Reason) : (s.clearWaiting r).Orderly [] le := by
  have hall : s.Orderly (s.waiting.map WaitEntry.seat ++ []) le :=
    h.mono (fun e he _ => by simpa using ⟨e, he, rfl⟩) fun _ _ => id
  have hfold := hall.removeSeats (fun n hn => by
    rw [← h.seated.listed] at hn; simp [hn]) r
  rwa [List.foldl_map] at hfold

end

end Sys2Proof.Machine
end

section
/-! ## Requests, the priority intervention and key actions keep the floor in order -/

namespace Sys2Proof.Machine

section
variable {s : State}

/-! ### Requests (R75, R81 to R86) -/

theorem State.Orderly.grantIdle {le : List Nat} {n : Nat} (h : s.Orderly [] le) (hn : (s.seat n).place = .idle) (he : s.eligible n = true)
    {c : Chan} (hr : s.room = some c) (l : Bool) : (s.grant c n l).Orderly [] le := by
  have hgrant := h.grant (by simp [hn]) he hr l
  rwa [State.leaveSilently_not_listed (h.seated.not_listed (by simp [hn]))] at hgrant

theorem State.joinIndex_le (s : State) (c : Context) (n : Nat) : s.joinIndex c n ≤ s.waiting.length := by
  unfold State.joinIndex; split <;> omega

theorem State.Orderly.joinList {c : Context} {n : Nat} (h : s.Orderly [] []) (ha : s.active = some c) (hn : (s.seat n).place = .idle)
    (he : s.eligible n = true) (k : Nat) : (s.joinList c n k).Orderly [] [] := by
  unfold State.joinList
  split
  · exact h.raise _
  · split
    · next hlt => exact h.insertWaiting hn he (fun x hx => by rw [ha] at hx; cases hx; exact hlt) k (s.joinIndex_le c n)
    · exact h.raise _

/-- R85: into a list that is full, or has an entry to lose, the requester is inserted at the head. -/
theorem State.Orderly.insertHead {c : Context} {n : Nat} (h : s.Orderly [] []) (ha : s.active = some c) (hn : (s.seat n).place = .idle)
    (he : s.eligible n = true) (hroom : 0 < c.capacity) (k : Nat) : (s.insertHead c n k).Orderly [] [] := by
  unfold State.insertHead
  split
  · next hlt => exact h.insertWaiting hn he (fun x hx => by rw [ha] at hx; cases hx; exact hlt) k (Nat.zero_le _)
  · next hfull =>
    split
    · next hnone => rw [List.getLast?_eq_none_iff.1 hnone] at hfull; exact absurd hroom hfull
    · next e hlast =>
      have hmem := List.mem_of_getLast? hlast
      have hwait : (s.seat e.seat).place = .waiting := (h.seated.listed _).2 (List.mem_map_of_mem hmem)
      have hne : n ≠ e.seat := by rintro rfl; rw [hn] at hwait; cases hwait
      have hf := s.frozen_removeWaiting e.seat .truncated
      refine ((h.excuseWaiting e.seat).removeWaiting (by simp [hwait]) .truncated).insertWaiting ?_ ?_ (fun x hx => ?_) k (Nat.zero_le _)
      · rw [State.removeWaiting_seat_ne _ _ hne, hn]
      · rw [State.eligible_of_frozen hf, he]
      · rw [State.active_of_frozen hf] at hx
        rw [(s.removeWaiting_lists e.seat .truncated).1]
        refine lt_of_lt_of_le ?_ (h.capacity x hx)
        exact List.length_filter_lt_length_iff_exists.2 ⟨e, hmem, by simp⟩

theorem State.Orderly.serveDisplacer {c : Context} {n : Nat} (h : s.Orderly [] []) (ha : s.active = some c)
    (hn : (s.seat n).place = .idle) (he : s.eligible n = true) (hroom : s.room = none → 0 < c.capacity) (k : Nat) :
    (s.serveDisplacer c n k).Orderly [] [] := by
  unfold State.serveDisplacer
  split
  · next ch hch => exact (h.grantIdle hn he hch false).fill
  · next hnone => exact (h.insertHead ha hn he (hroom hnone) k).fill

/-- R85: where an ordinary channel outside the speaker list is not RELEASING, it is FREE, and the displacement makes room. -/
theorem State.Orderly.room_of_displaced (h : s.Orderly [] []) {c : Context} (ha : s.active = some c) {e : Speaker} (he : e ∈ s.speakers)
    (ho : s.othersReleasing = false) (r : Reason) : (s.release e.chan e.seat r).room ≠ none := by
  obtain ⟨heo, hel, -⟩ := (h.seated.speaks e).1 he
  obtain ⟨d, hd, hout⟩ := List.all_eq_false.1 ho
  simp only [Bool.or_eq_true, List.any_eq_true, beq_iff_eq, not_or, not_exists, not_and] at hout
  obtain ⟨hspeak, hrel⟩ := hout
  have hfree : (s.chan d).state = .free := by
    cases hst : (s.chan d).state with
    | free => rfl
    | releasing => exact absurd hst hrel
    | live =>
      obtain ⟨m, hm⟩ := Option.ne_none_iff_exists'.1 ((h.seated.held d).1 hst)
      exact absurd rfl (hspeak _ ((h.seated.speaks { chan := d, seat := m }).2 ⟨mem_ordinaryChans.1 hd, hst, hm⟩))
  have hne : d ≠ e.chan := by rintro rfl; rw [hfree] at hel; cases hel
  have hbelow : (s.release e.chan e.seat r).belowMaxLive = true := by
    have hactive := State.active_of_frozen (s.frozen_release e.chan e.seat r)
    rw [State.belowMaxLive, hactive, ha, (s.release_lists e.chan e.seat r).2.1, if_pos heo]
    simp only [decide_eq_true_eq]
    exact lt_of_lt_of_le (List.length_filter_lt_length_iff_exists.2 ⟨e, he, by simp⟩) (h.maxLive c ha)
  rw [State.room, if_pos hbelow, State.freeOrdinary, ne_eq, List.find?_eq_none]
  exact fun hnone => hnone d hd (by rw [State.release_chan_ne _ _ _ hne]; simp [hfree])

theorem State.Orderly.displace {c : Context} {n : Nat} (h : s.Orderly [] []) (ha : s.active = some c) (hm : c.mode = .override)
    (hn : (s.seat n).place = .idle) (he : s.eligible n = true) (k : Nat) : (s.displace c n k).Orderly [] [] := by
  unfold State.displace
  split
  · exact h.joinList ha hn he k
  · next e hfind =>
    have hmem := List.mem_of_find?_eq_some hfind
    have hf := s.frozen_release e.chan e.seat .displaced
    split
    · exact h.raise _
    · next hcase =>
      refine ((h.excuse e.seat).release ((h.seated.speaks e).1 hmem).2.2 _).serveDisplacer
        ((State.active_of_frozen hf).trans ha) ?_ ((State.eligible_of_frozen hf n).trans he) (fun hnone => ?_) k
      · rw [(s.release_place _ _ _ _).1, hn, ite_self]
      · have hcap : c.capacity = c.listLimit := by simp [Context.capacity, hm]
        rw [hcap]
        by_contra hzero
        refine h.room_of_displaced ha hmem ?_ _ hnone
        have : (c.listLimit == 0) = true := by simpa using hzero
        simpa [this] using hcase

theorem State.Orderly.requestOpen {c : Context} {n : Nat} (h : s.Orderly [] []) (ha : s.active = some c) (hn : (s.seat n).place = .idle)
    (he : s.eligible n = true) (k : Nat) : (s.requestOpen c n k).Orderly [] [] := by
  unfold State.requestOpen
  split
  · next hr => exact h.grantIdle hn he hr false
  · exact h.raise _
  · next hr =>
    split
    · exact h.grantIdle hn he hr false
    · exact h.joinList ha hn he k
  · exact h.joinList ha hn he k
  · exact h.joinList ha hn he k
  · next hr => exact h.grantIdle hn he hr false
  · next hm _ => exact h.displace ha hm hn he k

theorem State.Orderly.judgeRequest {n : Nat} (h : s.Orderly [] []) (hn : (s.seat n).place = .idle) (k : Nat) :
    (s.judgeRequest n k).Orderly [] [] := by
  unfold State.judgeRequest
  split
  · exact h.raise _
  split
  · exact h.raise _
  split
  · next he =>
    split
    · exact h
    · next c ha =>
      split
      · unfold State.requestHeld
        split
        · exact h.raise _
        · exact h.joinList ha hn he k
      · exact h.requestOpen ha hn he k
  · exact h.raise _

/-! ### Withdraw, next, cancel and the priority intervention (R87, R90 to R92, R124 to R131) -/

/-- A seat leaves the floor, whatever its place. -/
theorem State.Orderly.removeWaiting_of_waiting (h : s.Orderly [] []) {n : Nat} (hn : (s.seat n).place = .waiting) (r : Reason) :
    (s.removeWaiting n r).Orderly [] [] := (h.excuseWaiting n).removeWaiting (by simp [hn]) r

theorem State.Orderly.judgeWithdraw (h : s.Orderly [] []) (n : Nat) : (s.judgeWithdraw n).Orderly [] [] := by
  unfold State.judgeWithdraw
  split
  · exact h
  · next hn => exact h.removeWaiting_of_waiting hn _
  · exact (h.excuse n).endSeat _

theorem State.Orderly.takeNext (h : s.Orderly [] []) : s.takeNext.Orderly [] [] := by
  unfold State.takeNext
  split
  · exact h
  · split <;> [exact h.grantHeads _; exact h.fill; exact h.fill; exact h]

theorem State.Orderly.cancelFloor (h : s.Orderly [] []) : s.cancelFloor.Orderly [] [] := (h.clearWaiting _).endSpeakers _

/-- R125: a chair that has given up its place is IDLE, and channel P stands. -/
theorem State.Orderly.escalate (h : s.Orderly [] []) {n : Nat} (hp : (s.chan .p).state ≠ .live) :
    (s.escalate n).Orderly [] [] ∧ ((s.escalate n).seat n).place = .idle ∧ (s.escalate n).chan .p = s.chan .p := by
  unfold State.escalate
  split
  · next hn => exact ⟨h, hn, rfl⟩
  · next hn =>
    refine ⟨h.removeWaiting_of_waiting hn _, by rw [State.removeWaiting_seat, if_pos rfl], ?_⟩
    rw [State.chan, (s.removeWaiting_lists n _).2.2.2.1]; rfl
  · next hn =>
    refine ⟨(h.excuse n).endSeat _, ?_⟩
    obtain ⟨c, hc⟩ := Option.ne_none_iff_exists'.1 ((h.seated.live n).1 hn)
    obtain ⟨hl, hs⟩ := (h.seated.bound n c).1 hc
    have hne : Chan.p ≠ c := by rintro rfl; exact hp hl
    have hend : s.endSeat n .escalated = s.endOrdinary c n .escalated := by
      unfold State.endSeat
      rw [hc]
      cases c with
      | p => exact absurd rfl hne
      | _ => rfl
    rw [hend]
    exact ⟨h.seated.endOrdinary_idle hs _, s.endOrdinary_chan_ne n _ hne (.inl rfl)⟩

theorem State.Orderly.judgePriorityHeld (h : s.Orderly [] []) (n : Nat) : (s.judgePriorityHeld n).Orderly [] [] := by
  unfold State.judgePriorityHeld
  split
  · next hc =>
    obtain ⟨-, hp, he⟩ := hc
    obtain ⟨h1, h2, h3⟩ := h.escalate (n := n) (by simp [hp])
    have hgrant := h1.grantPriority h2 ((State.entitledChair_of_frozen (s.frozen_escalate n) n).trans he) (by simp [h3, hp]) false
    exact State.Orderly.raise (s := { (s.escalate n).grant .p n false with floor := .held }) hgrant.of_eq _
  · exact h

theorem State.Orderly.judgePriorityReleased (h : s.Orderly [] []) (n : Nat) : (s.judgePriorityReleased n).Orderly [] [] := by
  unfold State.judgePriorityReleased
  split
  · next hh =>
    simp only [State.isHolder, Bool.and_eq_true, beq_iff_eq] at hh
    exact (h.excuse n).endPriority hh.2 _
  · exact h

theorem State.Orderly.judgeNext (h : s.Orderly [] []) : s.judgeNext.Orderly [] [] := by
  unfold State.judgeNext; split <;> [exact h.takeNext; exact h]

theorem State.Orderly.judgeCancel (h : s.Orderly [] []) : s.judgeCancel.Orderly [] [] := by
  unfold State.judgeCancel; split <;> [exact h; exact h.cancelFloor]

/-- R81 to R131: the answer to any key action; a request comes of a seat that is IDLE. -/
theorem State.Orderly.answer (h : s.Orderly [] []) (a : KeyAct) {n : Nat} (hn : a = .request → (s.seat n).place = .idle) (k : Nat) :
    (s.answer a n k).Orderly [] [] := by
  cases a with
  | request => exact h.judgeRequest (hn rfl) k
  | withdraw => exact h.judgeWithdraw n
  | next => exact h.judgeNext
  | cancel => exact h.judgeCancel
  | priorityHeld => exact h.judgePriorityHeld n
  | priorityReleased => exact h.judgePriorityReleased n

/-! ### Seats changed but for their places -/

/-- R80, R124: `u` is `t` with its place kept and its rights at least those of `t`; it is armed only if `t` was or if it is an entitled
chair. -/
structure Seat.Keeps (t u : Seat) : Prop where
  place : u.place = t.place
  bound : u.bound = t.bound
  config : u.config = t.config
  present : t.present = true → u.present = true
  flagged : u.flagged = true → t.flagged = true
  armed : u.armed = true →
    t.armed = true ∨ (u.config.enabled = true ∧ u.config.cls = .chair ∧ u.present = true ∧ u.flagged = false)

theorem Seat.Keeps.refl (t : Seat) : t.Keeps t := ⟨rfl, rfl, rfl, id, id, .inl⟩

theorem State.eligible_of_keeps {t : State} {n : Nat} (hk : (s.seat n).Keeps (t.seat n)) (ha : t.agenda = s.agenda)
    (h : s.eligible n = true) : t.eligible n = true := by
  have hactive : t.active = s.active := by rw [State.active, ha]; rfl
  simp only [State.eligible, State.admitted, State.classOf, hk.config, hactive, Bool.and_eq_true, Bool.not_eq_true'] at h ⊢
  obtain ⟨⟨⟨h1, h2⟩, h3⟩, h4⟩ := h
  exact ⟨⟨⟨h1, hk.present h2⟩, Bool.eq_false_iff.2 fun hf => by simp [hk.flagged hf] at h3⟩, h4⟩

theorem State.entitledChair_of_keeps {t : State} {n : Nat} (hk : (s.seat n).Keeps (t.seat n)) (h : s.entitledChair n = true) :
    t.entitledChair n = true := by
  simp only [State.entitledChair, State.isChair, State.classOf, hk.config, Bool.and_eq_true, Bool.not_eq_true'] at h ⊢
  obtain ⟨⟨⟨h1, h2⟩, h3⟩, h4⟩ := h
  exact ⟨⟨⟨h1, hk.present h2⟩, Bool.eq_false_iff.2 fun hf => by simp [hk.flagged hf] at h3⟩, h4⟩

/-- An update of seats that takes away no right; no seat becomes present while the trunk is DOWN. -/
theorem State.Orderly.of_keeps {t : State} {lw le : List Nat} (h : s.Orderly lw le) (hlen : t.seats.length = s.seats.length)
    (hk : ∀ n, (s.seat n).Keeps (t.seat n)) (hd : t.trunk = .down → ∀ n, (t.seat n).present = false)
    (e2 : t.channels = s.channels := by rfl) (e3 : t.agenda = s.agenda := by rfl) (e5 : t.waiting = s.waiting := by rfl)
    (e6 : t.speakers = s.speakers := by rfl) : t.Orderly lw le := by
  have hchan : ∀ c, t.chan c = s.chan c := fun c => by rw [State.chan, e2]; rfl
  refine h.of_rights (h.seated.of_view hlen (fun n => ⟨(hk n).place, (hk n).bound⟩) (by simp [hchan]) e5 e6) e5 e6 (by rw [hchan]) e3
    (fun n => State.eligible_of_keeps (hk n) e3) (fun n => State.entitledChair_of_keeps (hk n)) ⟨hd, fun n hn => ?_⟩
  rcases (hk n).armed hn with ha | ⟨h1, h2, h3, h4⟩
  · exact State.entitledChair_of_keeps (hk n) (h.guarded.armed n ha)
  · simp [State.entitledChair, State.isChair, State.classOf, h1, h2, h3, h4]

/-- Every seat after one is changed: changed or as it was. -/
theorem State.seat_updSeat_cases (s : State) (n m : Nat) (f : Seat → Seat) :
    (s.updSeat n f).seat m = s.seat m ∨ (m = n ∧ (s.updSeat n f).seat m = f (s.seat n)) := by
  by_cases hm : m = n
  · subst hm
    by_cases hr : 1 ≤ m ∧ m ≤ s.seats.length
    · exact .inr ⟨rfl, s.seat_updSeat_same f hr.1 hr.2⟩
    · exact .inl (by rw [State.updSeat_out _ _ (by omega)])
  · exact .inl (s.seat_updSeat_ne f hm)

/-- Every seat after all are changed: changed, or a number that names none. -/
theorem State.seat_map_cases {s t : State} {f : Seat → Seat} (h : t.seats = s.seats.map f) (n : Nat) :
    t.seat n = s.seat n ∨ t.seat n = f (s.seat n) := by
  cases n with
  | zero => exact .inl rfl
  | succ k =>
    simp only [State.seat, List.getD_eq_getElem?_getD, h, List.getElem?_map]
    cases s.seats[k]? with
    | none => exact .inl rfl
    | some t => exact .inr rfl

theorem State.Orderly.updSeat {lw le : List Nat} (h : s.Orderly lw le) (n : Nat) {f : Seat → Seat} (hk : (s.seat n).Keeps (f (s.seat n)))
    (hp : (f (s.seat n)).present = (s.seat n).present) : (s.updSeat n f).Orderly lw le := by
  refine h.of_keeps (by simp) (fun m => ?_) (fun hd m => ?_) (by simp) (by simp) (by simp) (by simp)
  · obtain he | ⟨rfl, he⟩ := s.seat_updSeat_cases n m f <;> rw [he] <;> [exact .refl _; exact hk]
  · rw [State.updSeat_trunk] at hd
    obtain he | ⟨rfl, he⟩ := s.seat_updSeat_cases n m f <;> rw [he]
    · exact h.guarded.absent hd m
    · rw [hp]; exact h.guarded.absent hd m

/-- All seats changed alike, none of them made present. -/
theorem State.Orderly.mapSeats {t : State} {lw le : List Nat} (h : s.Orderly lw le) {f : Seat → Seat} (e1 : t.seats = s.seats.map f)
    (hk : ∀ x : Seat, x.Keeps (f x)) (hp : ∀ x : Seat, (f x).present = x.present) (e2 : t.channels = s.channels := by rfl)
    (e3 : t.agenda = s.agenda := by rfl) (e4 : t.trunk = s.trunk := by rfl) (e5 : t.waiting = s.waiting := by rfl)
    (e6 : t.speakers = s.speakers := by rfl) : t.Orderly lw le := by
  refine h.of_keeps (by simp [e1]) (fun m => ?_) (fun hd m => ?_) e2 e3 e5 e6
  · obtain he | he := State.seat_map_cases e1 m <;> rw [he] <;> [exact .refl _; exact hk _]
  · rw [e4] at hd
    obtain he | he := State.seat_map_cases e1 m <;> rw [he]
    · exact h.guarded.absent hd m
    · rw [hp]; exact h.guarded.absent hd m

/-! ### Presentation (R46, R51, R79) -/

theorem State.Orderly.keepSlots (h : s.Orderly [] []) (k : Nat) (rest : List KeySlot) : (s.keepSlots k rest).Orderly [] [] := h.of_eq

theorem State.Orderly.spend (h : s.Orderly [] []) (k : KeySlot) : (s.spend k).Orderly [] [] := by
  unfold State.spend
  split
  · exact h.updSeat _ ⟨rfl, rfl, rfl, id, id, fun hf => nomatch hf⟩ rfl
  · exact h

theorem State.Orderly.closePresentation (h : s.Orderly [] []) : s.closePresentation.Orderly [] [] := by
  unfold State.closePresentation
  split <;> [exact h.of_eq; exact h]

/-- R43, R44: a request is derived of an IDLE seat. -/
theorem Seat.derive_request {t : Seat} {e : KeyEvent} (h : t.derive e = some .request) : t.place = .idle := by
  obtain ⟨press, rfl⟩ : ∃ press, e = .talk press := by
    have := Seat.derive_comesFrom h
    cases e <;> simp_all [KeyAct.comesFrom]
  simp only [Seat.derive, Seat.talkEvent] at h
  split at h
  swap
  · cases h
  split at h
  · cases h
  obtain ⟨b, hb, hu⟩ := Option.bind_eq_some_iff.1 h
  obtain rfl : b = .request := by
    unfold unlessFlagged at hu
    split at hu
    · cases hu
    · exact Option.some.inj hu
  cases hk : t.config.keyAction <;> cases press <;> cases hp : t.place <;> simp_all [talkAct]

/-- R46: a spent slot changes no more than an armed mark, which no TALK edge looks at. -/
theorem State.deriveSlot_spend_talk (s : State) (j k : KeySlot) {press : Bool} (hk : k.event = .talk press) :
    (s.spend j).deriveSlot k = s.deriveSlot k := by
  unfold State.spend
  split
  · rw [State.deriveSlot, State.deriveSlot]
    obtain he | ⟨he, hs⟩ := s.seat_updSeat_cases j.seat k.seat (fun t => { t with armed := false })
    · rw [he]
    · rw [hs, hk, he]; rfl
  · rfl

theorem State.deriveSlot_spendAll_talk (l : List KeySlot) (s : State) (k : KeySlot) {press : Bool} (hk : k.event = .talk press) :
    (l.foldl State.spend s).deriveSlot k = s.deriveSlot k := by
  induction l generalizing s with
  | nil => rfl
  | cons j l ih => rw [List.foldl_cons, ih, State.deriveSlot_spend_talk _ _ _ hk]

theorem State.Orderly.present (h : s.Orderly [] []) (n : Nat) (a : KeyAct) {answer : State → Nat → State}
    (ha : ∀ (u : State) (k : Nat), u.Orderly [] [] → (a = .request → (u.seat n).place = .idle) → (answer u k).Orderly [] []) :
    (s.present n a answer).Orderly [] [] := by
  obtain he | ⟨p, before, k, rest, -, -, hof, -, hreach, he⟩ := s.present_cases n a answer
  · rw [he]; exact h
  have hspent : ∀ (l : List KeySlot) (u : State), u.Orderly [] [] → (l.foldl State.spend u).Orderly [] [] := by
    intro l
    induction l with
    | nil => exact fun _ hu => hu
    | cons j l ih => exact fun u hu => ih _ (hu.spend j)
  have hkeep := (hspent before s h).keepSlots p.sweep rest
  rw [he, State.takeSlot]
  split
  · exact (hkeep.spend k).closePresentation
  · next b hb =>
    refine (ha _ _ hkeep ?_).closePresentation
    rintro rfl
    simp only [KeySlot.isOf, Bool.and_eq_true, beq_iff_eq] at hof
    obtain ⟨rfl, hcomes⟩ := hof
    obtain ⟨press, hk⟩ : ∃ press, k.event = .talk press := by
      revert hcomes
      cases k.event <;> simp [KeyAct.comesFrom]
    have hs := State.deriveSlot_spendAll_talk before s k hk
    rw [hb] at hs
    have hreq : b = .request := by simpa [State.canReach, ← hs] using hreach
    exact Seat.derive_request (t := (before.foldl State.spend s).seat k.seat) (e := k.event) (hreq ▸ hb)

theorem State.Orderly.presentSlots (k : Nat) (l : List KeySlot) (h : s.Orderly [] []) : (State.presentSlots k l s).Orderly [] [] := by
  induction l generalizing s with
  | nil => exact h
  | cons x l ih =>
    rw [State.presentSlots_cons]
    refine ih ?_
    cases hd : s.deriveSlot x with
    | none => rw [State.takeNextSlot_none hd]; exact (h.keepSlots k l).spend x
    | some a =>
      rw [State.takeNextSlot_some hd]
      exact (h.keepSlots k l).answer a (fun hr => Seat.derive_request (t := s.seat x.seat) (e := x.event) (hr ▸ hd)) k

theorem State.Orderly.presentAll (h : s.Orderly [] []) : s.presentAll.Orderly [] [] := by
  unfold State.presentAll
  split
  · exact h
  · exact (h.presentSlots _ _).of_eq

end

end Sys2Proof.Machine
end

section
/-! ## Closing, changeover and timers keep the floor in order -/

namespace Sys2Proof.Machine

section
variable {s : State}

/-! ### Lists of grants and of entries taken off the floor -/

theorem State.Seated.releaseList (h : s.Seated) (r : Reason) {l : List Speaker} (hl : ∀ e ∈ l, (s.chan e.chan).seat = some e.seat)
    (hnd : (l.map Speaker.chan).Nodup) : (s.releaseList r l).Seated := by
  induction l generalizing s with
  | nil => exact h
  | cons e l ih =>
    rw [List.map_cons, List.nodup_cons] at hnd
    refine ih (h.release (hl e List.mem_cons_self) r) (fun x hx => ?_) hnd.2
    rw [State.release_chan_ne _ _ _ fun he : x.chan = e.chan => hnd.1 (he ▸ List.mem_map_of_mem hx)]
    exact hl x (List.mem_cons_of_mem e hx)

/-- The End of some of the speakers, in any order. -/
theorem State.Seated.releaseSome (h : s.Seated) (r : Reason) {l l' : List Speaker} (hl : l.Sublist s.speakers) (hp : l'.Perm l) :
    (s.releaseList r l').Seated :=
  h.releaseList r (fun e he => ((h.speaks e).1 (hl.subset (hp.subset he))).2.2)
    ((hp.map _).nodup_iff.2 (h.speakersOnce.sublist (hl.map _)))

/-- The removal of every entry of a list. -/
def State.removeList (r : Reason) (l : List WaitEntry) (s : State) : State := l.foldl (fun s e => s.removeWaiting e.seat r) s

theorem State.frozen_removeList (r : Reason) (l : List WaitEntry) (s : State) : (s.removeList r l).frozen = s.frozen :=
  State.frozen_foldl (fun (s : State) (e : WaitEntry) => s.removeWaiting e.seat r) (by simp) l s

theorem State.removeList_lists (r : Reason) (l : List WaitEntry) (s : State) :
    (s.removeList r l).waiting = (s.waiting.filter fun e => e.seat ∉ l.map WaitEntry.seat) ∧
      (s.removeList r l).speakers = s.speakers ∧ (s.removeList r l).channels = s.channels := by
  obtain ⟨-, h1, h2, -, h3, -⟩ := s.clearWaiting_effect r l _ rfl
  exact ⟨h1, h2, h3⟩

theorem State.Seated.removeList (h : s.Seated) (r : Reason) {l : List WaitEntry} (hl : ∀ e ∈ l, (s.seat e.seat).place ≠ .live) :
    (s.removeList r l).Seated := by
  induction l generalizing s with
  | nil => exact h
  | cons e l ih =>
    refine ih (h.removeWaiting (hl e List.mem_cons_self) r) fun x hx => ?_
    rw [State.removeWaiting_seat]
    split
    · simp
    · exact hl x (List.mem_cons_of_mem e hx)

/-- The removal of some of the entries, in any order. -/
theorem State.Seated.removeSome (h : s.Seated) (r : Reason) {l : List WaitEntry} (hl : ∀ e ∈ l, e ∈ s.waiting) : (s.removeList r l).Seated :=
  h.removeList r fun e he => by simp [(h.listed e.seat).2 (List.mem_map_of_mem (hl e he))]

/-- No speaker holds channel P, so that the Ends of speakers leave it. -/
theorem State.Seated.releaseSome_priority (h : s.Seated) (r : Reason) {l : List Speaker} (hl : ∀ e ∈ l, e ∈ s.speakers) :
    (s.releaseList r l).chan .p = s.chan .p := by
  rw [State.releaseList_chan, if_neg]
  intro hm
  obtain ⟨e, he, hc⟩ := List.mem_map.1 hm
  have ho := ((h.speaks e).1 (hl e he)).1
  rw [hc] at ho
  cases ho

/-- `s` with another agenda, which no place depends on. -/
def State.withAgenda (s : State) (l : List Context) : State := { s with agenda := l }

theorem State.Seated.withAgenda (h : s.Seated) (l : List Context) : (s.withAgenda l).Seated :=
  h.of_view rfl (fun _ => ⟨rfl, rfl⟩) (fun _ => ⟨Iff.rfl, rfl⟩) rfl rfl

theorem State.Guarded.withAgenda (h : s.Guarded) (l : List Context) : (s.withAgenda l).Guarded := ⟨h.absent, h.armed⟩

theorem State.Seated.withFloor (h : s.Seated) (f : Floor) : (s.withFloor f).Seated :=
  h.of_view rfl (fun _ => ⟨rfl, rfl⟩) (fun _ => ⟨Iff.rfl, rfl⟩) rfl rfl

theorem State.Guarded.withFloor (h : s.Guarded) (f : Floor) : (s.withFloor f).Guarded := ⟨h.absent, h.armed⟩

/-! ### The floor cleared (R61, R62, R67, R68) -/

/-- R62: both lists are empty, and channel P stands. -/
theorem State.Seated.clearFloor (h : s.Seated) (r : Reason) :
    (s.clearFloor r).Seated ∧ (s.clearFloor r).waiting = [] ∧ (s.clearFloor r).speakers = [] ∧ (s.clearFloor r).chan .p = s.chan .p := by
  have hrel : (s.releaseSpeakers r).Seated := h.releaseSome r (List.Sublist.refl _) (List.Perm.refl _)
  have hspeak : (s.releaseSpeakers r).speakers = [] := by
    have hlists := (State.releaseList_lists r s.speakers s).2.2
    refine hlists.trans (List.filter_eq_nil_iff.2 fun e he => ?_)
    simpa using ⟨e, he, ((h.speaks e).1 he).1, rfl⟩
  obtain ⟨-, h2, h3⟩ := State.removeList_lists r (s.releaseSpeakers r).waiting (s.releaseSpeakers r)
  refine ⟨hrel.removeSome r fun _ => id, State.clearWaiting_waiting _ r, h2.trans hspeak, ?_⟩
  have hchan : (s.clearFloor r).chan .p = (s.releaseSpeakers r).chan .p := by
    rw [State.chan, State.chan]
    exact congrArg (PerChan.get · .p) h3
  exact hchan.trans (h.releaseSome_priority r fun _ => id)

/-- A floor with nobody on it but the holder of channel P. -/
theorem State.Guarded.orderly {t : State} (h : s.Guarded) (hf : t.frozen = s.frozen) (ht : t.Seated) (hw : t.waiting = [])
    (hs : t.speakers = []) (hp : ∀ n, (t.chan .p).seat = some n → s.entitledChair n = true) : t.Orderly [] [] :=
  State.Orderly.of_frozen h hf ht (by simp [hw]) (by simp [hs]) (fun n hn _ => hp n hn) (by simp [hw]) (by simp [hs])

theorem State.Orderly.clearFloor {t : State} (h : s.Orderly [] []) (hg : t.Guarded) (ht : t.Seated)
    (hp : (t.chan .p).seat = (s.chan .p).seat) (he : ∀ n, t.entitledChair n = s.entitledChair n) (r : Reason) :
    (t.clearFloor r).Orderly [] [] := by
  obtain ⟨h1, h2, h3, h4⟩ := ht.clearFloor r
  refine hg.orderly (by simp) h1 h2 h3 fun n hn => ?_
  rw [h4, hp] at hn
  rw [he]
  exact h.holder n hn (by simp)

theorem State.Seated.releaseHolder (h : s.Seated) (r : Reason) :
    (s.releaseHolder r).Seated ∧ ((s.releaseHolder r).chan .p).seat = none := by
  unfold State.releaseHolder
  split
  · next n _ hn => exact ⟨h.release hn r, by rw [State.release_chan_same]⟩
  · next hno =>
    refine ⟨h, ?_⟩
    by_contra hs
    obtain ⟨n, hn⟩ := Option.ne_none_iff_exists'.1 hs
    exact hno n ((h.held .p).2 hs) hn

/-- R67: after the closing procedure nobody is on the floor. -/
theorem State.Orderly.closeFloor (h : s.Orderly [] []) (item : Nat) (r : Reason) : (s.closeFloor item r).Orderly [] [] := by
  have hg := (h.guarded.withAgenda []).withFloor .closed
  obtain ⟨h1, h2⟩ := ((h.seated.withAgenda []).withFloor .closed).releaseHolder r
  obtain ⟨h3, h4, h5, h6⟩ := h1.clearFloor r
  have hz : (((s.withAgenda []).withFloor .closed).releaseHolder r).frozen = ((s.withAgenda []).withFloor .closed).frozen := by
    unfold State.releaseHolder; split <;> simp
  refine State.Orderly.raise (s := (((s.withAgenda []).withFloor .closed).releaseHolder r).clearFloor r) ?_ _
  exact hg.orderly ((State.frozen_clearFloor _ _).trans hz) h3 h4 h5 fun n hn => by rw [h6, h2] at hn; cases hn

/-! ### Changeover with carry (R63 to R65) -/

/-- What the fit to a context has to leave: the seats, channels and lists agree, channel P stands, and each list holds some of the
entries it held before. -/
structure State.FittedFrom (s t : State) : Prop where
  seated : t.Seated
  frozen : t.frozen = s.frozen
  priority : (t.chan .p).seat = (s.chan .p).seat
  waiting : t.waiting.Sublist s.waiting
  speakers : t.speakers.Sublist s.speakers

theorem State.FittedFrom.refl (h : s.Seated) : s.FittedFrom s := ⟨h, rfl, rfl, List.Sublist.refl _, List.Sublist.refl _⟩

theorem State.FittedFrom.trans {t u : State} (h1 : s.FittedFrom t) (h2 : t.FittedFrom u) : s.FittedFrom u :=
  ⟨h2.seated, h2.frozen.trans h1.frozen, h2.priority.trans h1.priority, h2.waiting.trans h1.waiting, h2.speakers.trans h1.speakers⟩

theorem State.Seated.fitted_releaseSome (h : s.Seated) (r : Reason) {l l' : List Speaker} (hl : l.Sublist s.speakers) (hp : l'.Perm l) :
    s.FittedFrom (s.releaseList r l') := by
  obtain ⟨h1, -, h3⟩ := State.releaseList_lists r l' s
  refine ⟨h.releaseSome r hl hp, State.frozen_releaseList r l' s, ?_, ?_, ?_⟩
  · rw [h.releaseSome_priority r fun e he => hl.subset (hp.subset he)]
  · rw [h1]
  · rw [h3]; exact List.filter_sublist

theorem State.Seated.fitted_removeSome (h : s.Seated) (r : Reason) {l : List WaitEntry} (hl : ∀ e ∈ l, e ∈ s.waiting) :
    s.FittedFrom (s.removeList r l) := by
  obtain ⟨h1, h2, h3⟩ := State.removeList_lists r l s
  refine ⟨h.removeSome r hl, State.frozen_removeList r l s, ?_, ?_, ?_⟩
  · rw [State.chan, h3]; rfl
  · rw [h1]; exact List.filter_sublist
  · rw [h2]

theorem State.classOf_of_frozen {t : State} (h : t.frozen = s.frozen) (n : Nat) : t.classOf n = s.classOf n := by
  rw [State.classOf, State.config_of_frozen h]; rfl

/-- R63, step 1. -/
theorem State.Seated.fitAdmission (h : s.Seated) (c : Context) :
    s.FittedFrom (s.fitAdmission c) ∧ ∀ e ∈ (s.fitAdmission c).speakers, c.admitted.admits (s.classOf e.seat) = true := by
  refine ⟨h.fitted_releaseSome .itemChange (l := s.speakers.filter fun e => !c.admitted.admits (s.classOf e.seat)) List.filter_sublist
    (List.Perm.refl _), fun e he => ?_⟩
  have hlists := (State.releaseList_lists .itemChange (s.speakers.filter fun e => !c.admitted.admits (s.classOf e.seat)) s).2.2
  have he' : e ∈ s.speakers.filter _ := hlists ▸ he
  simp only [List.mem_filter, decide_eq_true_eq, Bool.not_eq_true', and_imp] at he'
  obtain ⟨hmem, hkept⟩ := he'
  by_contra hno
  exact hkept e hmem (by simpa using hno) ((h.speaks e).1 hmem).1 rfl

/-- What is left of a list when all entries beyond the first `k` are gone. -/
theorem length_filter_drop_le {α : Type} {p : α → Bool} {k : Nat} {l : List α} (h : ∀ a ∈ l.drop k, p a = false) :
    (l.filter p).length ≤ k := by
  have hdrop : (l.drop k).filter p = [] := List.filter_eq_nil_iff.2 fun a ha => by simp [h a ha]
  rw [← List.take_append_drop k l, List.filter_append, hdrop, List.append_nil]
  exact (List.length_filter_le _ _).trans (List.length_take_le _ _)

/-- R63, step 2. -/
theorem State.Seated.fitMaxLive (h : s.Seated) (c : Context) :
    s.FittedFrom (s.fitMaxLive c) ∧ (s.fitMaxLive c).speakers.length ≤ c.maxLive := by
  have hperm := List.reverse_perm (s.speakers.drop c.maxLive)
  refine ⟨h.fitted_releaseSome .itemChange (List.drop_sublist _ _) hperm, ?_⟩
  have hlists := (State.releaseList_lists .itemChange (s.speakers.drop c.maxLive).reverse s).2.2
  refine le_trans (le_of_eq (congrArg List.length hlists)) (length_filter_drop_le fun e he => ?_)
  simpa using ⟨e, he, ((h.speaks e).1 (List.mem_of_mem_drop he)).1, rfl⟩

/-- R64, step 3. -/
theorem State.Seated.fitListAdmission (h : s.Seated) (c : Context) :
    s.FittedFrom (s.fitListAdmission c) ∧ ∀ e ∈ (s.fitListAdmission c).waiting, c.admitted.admits (s.classOf e.seat) = true := by
  refine ⟨h.fitted_removeSome .itemChange (l := s.waiting.filter fun e => !c.admitted.admits (s.classOf e.seat))
    fun _ => List.mem_of_mem_filter, fun e he => ?_⟩
  have hlists := (State.removeList_lists .itemChange (s.waiting.filter fun e => !c.admitted.admits (s.classOf e.seat)) s).1
  have he' : e ∈ s.waiting.filter _ := hlists ▸ he
  simp only [List.mem_filter, decide_eq_true_eq, List.mem_map, Bool.not_eq_true', not_exists, not_and, and_imp] at he'
  obtain ⟨hmem, hkept⟩ := he'
  by_contra hno
  exact hkept e hmem (by simpa using hno) rfl

/-- R64, steps 4 and 5. -/
theorem State.Seated.fitCapacity (h : s.Seated) (c : Context) :
    s.FittedFrom ((s.fitDirect c).fitListLimit c) ∧ ((s.fitDirect c).fitListLimit c).waiting.length ≤ c.capacity := by
  have limit : ∀ t : State, t.Seated → t.FittedFrom (t.fitListLimit c) ∧ (t.fitListLimit c).waiting.length ≤ c.listLimit := by
    intro t ht
    refine ⟨ht.fitted_removeSome .truncated fun e he => List.mem_of_mem_drop (List.mem_reverse.1 he), ?_⟩
    have hlists := (State.removeList_lists .truncated (t.waiting.drop c.listLimit).reverse t).1
    refine le_trans (le_of_eq (congrArg List.length hlists)) (length_filter_drop_le fun e he => ?_)
    simpa using List.mem_map_of_mem (f := WaitEntry.seat) he
  by_cases hm : c.mode = .direct
  · have hd : s.fitDirect c = s.removeList .itemChange s.waiting := by rw [State.fitDirect, if_pos hm]; rfl
    have hempty : (s.fitDirect c).waiting = [] := by rw [State.fitDirect, if_pos hm]; exact s.clearWaiting_waiting _
    have h1 : s.FittedFrom (s.fitDirect c) := hd ▸ h.fitted_removeSome .itemChange fun _ => id
    obtain ⟨h2, -⟩ := limit _ h1.seated
    have hw := h2.waiting
    rw [hempty, List.sublist_nil] at hw
    exact ⟨h1.trans h2, by simp [hw]⟩
  · rw [State.fitDirect, if_neg hm, Context.capacity, if_neg hm]
    exact limit s h

theorem State.raiseFitWarning_eq (s : State) (e : Speaker) (before after : Bool) (time : Option Nat) :
    ∃ l, s.raiseFitWarning e before after time = s.raiseAll l := by
  unfold State.raiseFitWarning
  split
  · exact ⟨[], rfl⟩
  · split
    · exact ⟨[_], rfl⟩
    · exact ⟨[], rfl⟩

/-- R65: a surviving grant's timer and warned mark, with the notice they bring. -/
theorem State.Seated.fitted_retimed (h : s.Seated) (c : Chan) {r : Channel} (hst : r.state = (s.chan c).state)
    (hse : r.seat = (s.chan c).seat) (l : List Notice) : s.FittedFrom ((s.setChan c r).raiseAll l) := by
  have hchan : ∀ d, (((s.setChan c r).raiseAll l).chan d).state = (s.chan d).state ∧
      (((s.setChan c r).raiseAll l).chan d).seat = (s.chan d).seat := fun d => by
    rw [State.raiseAll_chan]
    by_cases hd : d = c
    · subst hd; rw [State.chan_setChan_same]; exact ⟨hst, hse⟩
    · rw [State.chan_setChan_ne _ _ hd]; exact ⟨rfl, rfl⟩
  obtain ⟨hw, hs, -, -⟩ := State.raiseAll_lists (s.setChan c r) l
  have hf : ((s.setChan c r).raiseAll l).frozen = s.frozen := (s.setChan c r).frozen_raiseAll l
  refine ⟨h.of_view (State.frozen_length hf) (fun n => by simp [State.raiseAll_seat]) (fun d => ?_) hw hs, hf, (hchan .p).2, ?_, ?_⟩
  · rw [(hchan d).1, (hchan d).2]; exact ⟨Iff.rfl, rfl⟩
  · rw [hw]; exact List.Sublist.refl _
  · rw [hs]; exact List.Sublist.refl _

/-- R65: a surviving grant is fitted: its timer, its warned mark and its expiry. Every other grant stands. -/
theorem State.Seated.fitTimer (h : s.Seated) {c : Context} {e : Speaker} (he : e ∈ s.speakers) :
    s.FittedFrom (s.fitTimer c e) ∧ ∀ x ∈ s.speakers, x.chan ≠ e.chan → x ∈ (s.fitTimer c e).speakers := by
  obtain ⟨ho, hl, hs⟩ := (h.speaks e).1 he
  unfold State.fitTimer
  simp only
  generalize fitRemaining (c.allowance (s.classOf e.seat)) (s.chan e.chan).remaining = time
  obtain ⟨l, hw⟩ := State.raiseFitWarning_eq (s.setChan e.chan { s.chan e.chan with remaining := time, warned := c.warnedAt time }) e
    (s.chan e.chan).warned (c.warnedAt time) time
  have hfit := h.fitted_retimed e.chan (r := { s.chan e.chan with remaining := time, warned := c.warnedAt time }) rfl rfl l
  rw [hw]
  have hsame : ((s.setChan e.chan { s.chan e.chan with remaining := time, warned := c.warnedAt time }).raiseAll l).speakers = s.speakers :=
    (State.raiseAll_lists _ l).2.1
  generalize (s.setChan e.chan { s.chan e.chan with remaining := time, warned := c.warnedAt time }).raiseAll l = u at hfit hsame ⊢
  unfold State.meetExpiry
  split
  swap
  · exact ⟨hfit, fun x hx _ => hsame.symm ▸ hx⟩
  have hrel := hfit.seated.fitted_releaseSome .expired (List.singleton_sublist.2 (hsame.symm ▸ he)) (List.Perm.refl _)
  refine ⟨hfit.trans hrel, fun x hx hne => ?_⟩
  rw [(State.release_lists _ _ _ _).2.1, if_pos ho, hsame, List.mem_filter]
  exact ⟨hx, by simpa using hne⟩

/-- R65, step 6. -/
theorem State.Seated.fitTimers (h : s.Seated) (c : Context) : s.FittedFrom (s.fitTimers c) := by
  have key : ∀ (l : List Speaker) (s : State), s.Seated → (∀ e ∈ l, e ∈ s.speakers) → (l.map Speaker.chan).Nodup →
      s.FittedFrom (l.foldl (fun s e => s.fitTimer c e) s) := by
    intro l
    induction l with
    | nil => exact fun _ h _ _ => .refl h
    | cons e l ih =>
      intro s h hl hnd
      rw [List.map_cons, List.nodup_cons] at hnd
      obtain ⟨h1, h2⟩ := h.fitTimer (c := c) (hl e List.mem_cons_self)
      refine h1.trans (ih _ h1.seated (fun x hx => ?_) hnd.2)
      exact h2 x (hl x (List.mem_cons_of_mem e hx)) fun he => hnd.1 (he ▸ List.mem_map_of_mem hx)
  exact key _ _ h (fun _ => id) h.speakersOnce

/-- R63 to R65: after the fit to a context each entry of the lists is admitted, and neither list is too long. -/
theorem State.Seated.carryFloor (h : s.Seated) (c : Context) :
    s.FittedFrom (s.carryFloor c) ∧ (∀ e ∈ (s.carryFloor c).speakers, c.admitted.admits (s.classOf e.seat) = true) ∧
      (∀ e ∈ (s.carryFloor c).waiting, c.admitted.admits (s.classOf e.seat) = true) ∧
      (s.carryFloor c).speakers.length ≤ c.maxLive ∧ (s.carryFloor c).waiting.length ≤ c.capacity := by
  obtain ⟨f1, a1⟩ := h.fitAdmission c
  obtain ⟨f2, b2⟩ := f1.seated.fitMaxLive c
  obtain ⟨f3, a3⟩ := f2.seated.fitListAdmission c
  obtain ⟨f4, b4⟩ := f3.seated.fitCapacity c
  have f5 := f4.seated.fitTimers c
  have hafter2 : ((s.fitAdmission c).fitMaxLive c).FittedFrom (s.carryFloor c) := f3.trans (f4.trans f5)
  have hafter3 : (((s.fitAdmission c).fitMaxLive c).fitListAdmission c).FittedFrom (s.carryFloor c) := f4.trans f5
  have hclass := State.classOf_of_frozen (f1.trans f2).frozen
  refine ⟨f1.trans (f2.trans hafter2), fun e he => a1 e ((f2.trans hafter2).speakers.subset he), fun e he => ?_,
    hafter2.speakers.length_le.trans b2, f5.waiting.length_le.trans b4⟩
  rw [← hclass]
  exact a3 e (hafter3.waiting.subset he)

/-- R80: a seat that was eligible is eligible under another context that admits its class. -/
theorem State.eligible_of_admits {c : Context} {later : List Context} {n : Nat} (ha : c.admitted.admits (s.classOf n) = true)
    (he : s.eligible n = true) : (s.withAgenda (c :: later)).eligible n = true := by
  simp only [State.eligible, Bool.and_eq_true] at he ⊢
  exact ⟨he.1, ha⟩

/-- R61, R62, R66: the changeover to the context that has become active. -/
theorem State.Orderly.changeover (h : s.Orderly [] []) (c : Context) (later : List Context) :
    ((s.withAgenda (c :: later)).changeover c).Orderly [] [] := by
  have ht := h.seated.withAgenda (c :: later)
  have hg := h.guarded.withAgenda (c :: later)
  refine (State.Orderly.raise ?_ _).fill
  split
  · obtain ⟨hf, hs, hw, hmax, hcap⟩ := ht.carryFloor c
    refine State.Orderly.of_frozen hg hf.frozen hf.seated (fun e he _ => ?_) (fun e he _ => ?_) (fun n hn _ => ?_) (fun x hx => ?_)
      (fun x hx => ?_)
    · exact State.eligible_of_admits (hw e he) (h.waiting e (hf.waiting.subset he) (by simp))
    · exact State.eligible_of_admits (hs e he) (h.speakers e (hf.speakers.subset he) (by simp))
    · rw [hf.priority] at hn
      exact h.holder n hn (by simp)
    · cases hx; exact hcap
    · cases hx; exact hmax
  · exact h.clearFloor hg ht rfl (fun _ => rfl) _

/-! ### The agenda's directives (R58 to R60, R68, R69) -/

theorem State.Orderly.reply (h : s.Orderly [] []) (tag : Byte) (b : ReplyBody) : (s.reply tag b).Orderly [] [] := h.of_eq

/-- R80: with no active context nobody is on the floor but the holder of channel P. -/
theorem State.Orderly.lists_of_inactive (h : s.Orderly [] []) (ha : s.active = none) : s.waiting = [] ∧ s.speakers = [] := by
  have hno : ∀ n, s.eligible n = false := fun n => by simp [State.eligible, State.admitted, ha]
  constructor
  · exact List.eq_nil_iff_forall_not_mem.2 fun e he => by simpa [hno] using h.waiting e he (by simp)
  · exact List.eq_nil_iff_forall_not_mem.2 fun e he => by simpa [hno] using h.speakers e he (by simp)

theorem State.Orderly.stageItem (h : s.Orderly [] []) (tag : Byte) (c : Context) : (s.stageItem tag c).Orderly [] [] := by
  unfold State.stageItem
  split
  · next ha =>
    obtain ⟨hw, hs⟩ := h.lists_of_inactive (by simp [State.active, ha])
    have hopen : ((s.withAgenda [c]).withFloor .opened).Orderly [] [] :=
      ((h.guarded.withAgenda [c]).withFloor .opened).orderly rfl ((h.seated.withAgenda [c]).withFloor .opened) hw hs
        fun n hn => h.holder n hn (by simp)
    exact ((hopen.raise _).fill).reply tag _
  · next a ha =>
    have hactive : (s.withAgenda [a, c]).active = s.active := by simp [State.active, State.withAgenda, ha]
    have he : ∀ n, (s.withAgenda [a, c]).eligible n = s.eligible n := fun n => by
      rw [State.eligible, State.admitted, hactive]; rfl
    refine State.Orderly.reply (s := s.withAgenda [a, c]) ?_ tag _
    refine ⟨h.seated.withAgenda _, fun e h1 h2 => (he _).trans (h.waiting e h1 h2), fun e h1 h2 => (he _).trans (h.speakers e h1 h2),
      h.holder, ?_, ?_, h.guarded.withAgenda _⟩
    · rw [hactive]; exact h.capacity
    · rw [hactive]; exact h.maxLive
  · exact h.reply tag _

theorem State.Orderly.advanceItem (h : s.Orderly [] []) (tag : Byte) : (s.advanceItem tag).Orderly [] [] := by
  unfold State.advanceItem
  split
  · exact h.reply tag _
  · next a rest _ =>
    split
    · exact h.reply tag _
    · cases rest with
      | cons n later => exact (h.changeover n later).reply tag _
      | nil =>
        simp only
        split
        · exact h.reply tag _
        · exact (h.closeFloor _ _).reply tag _

theorem State.Orderly.flushAgenda (h : s.Orderly [] []) (tag : Byte) : (s.flushAgenda tag).Orderly [] [] := by
  unfold State.flushAgenda
  split
  · exact h.reply tag _
  · next a rest ha =>
    split
    · exact (((h.clearFloor (h.guarded.withAgenda [a]) (h.seated.withAgenda [a]) rfl (fun _ => rfl) _).endHolder _).fill).reply tag _
    · exact (h.closeFloor _ _).reply tag _

/-! ### Timers (R113 to R121) -/

theorem State.Orderly.stopTimer (h : s.Orderly [] []) (c : Chan) : (s.stopTimer c).Orderly [] [] := h.of_eq

theorem State.Orderly.countDown (h : s.Orderly [] []) (x : Context) {c : Chan} {n : Nat} (hc : (s.chan c).seat = some n) (r : Nat) :
    (s.countDown x c n r).Orderly [] [] := by
  have warned : ∀ u : State, u.Orderly [] [] → (u.setChan c { u.chan c with warned := true }).Orderly [] [] := fun u hu =>
    hu.setChan c Iff.rfl rfl
  have hwarn : ((s.setChan c { s.chan c with remaining := some r }).warnAfter x c n r).Orderly [] [] ∧
      (((s.setChan c { s.chan c with remaining := some r }).warnAfter x c n r).chan c).seat = some n := by
    have hset : (s.setChan c { s.chan c with remaining := some r }).Orderly [] [] := h.setChan c Iff.rfl rfl
    unfold State.warnAfter
    split
    · exact ⟨(warned _ hset).raise _, by simpa using hc⟩
    · exact ⟨hset, by simpa using hc⟩
  obtain ⟨h1, h2⟩ := hwarn
  unfold State.countDown State.expireAfter
  simp only
  split
  · split
    · exact (h1.excuse n).endOrdinary h2 _
    · exact (warned _ h1).raise _
  · exact h1

theorem State.Orderly.tick (h : s.Orderly [] []) (c : Chan) : (s.tick c).Orderly [] [] := by
  unfold State.tick
  simp only
  split
  · next hn _ =>
    split
    · exact h.stopTimer c
    · exact (h.stopTimer c).countDown _ (by simpa [State.stopTimer] using hn) _
  · exact h.stopTimer c

theorem State.Orderly.takeFreed (h : s.Orderly [] []) (c : Chan) : (s.takeFreed c).Orderly [] [] := by
  unfold State.takeFreed
  split
  · next hd =>
    simp only [State.freedDue, Bool.and_eq_true, beq_iff_eq] at hd
    have hfree : (s.setChan c { s.chan c with state := .free }).Orderly [] [] := h.setChan c (by simp [hd.2]) rfl
    exact State.Orderly.fill (s := s.freeChan c) hfree.of_eq
  · exact h

/-- A fold of operations that keep the floor in order keeps it. -/
theorem State.Orderly.foldl {α : Type} {f : State → α → State} (hf : ∀ s a, s.Orderly [] [] → (f s a).Orderly [] []) (l : List α)
    (h : s.Orderly [] []) : (l.foldl f s).Orderly [] [] := by
  induction l generalizing s with
  | nil => exact h
  | cons a l ih => exact ih (hf s a h)

theorem State.Orderly.takeAllFreed (h : s.Orderly [] []) : s.takeAllFreed.Orderly [] [] := by
  have hall : (s.owed.freed.foldl State.takeFreed s).Orderly [] [] := State.Orderly.foldl (fun s c h => h.takeFreed c) _ h
  exact hall.of_eq

end

end Sys2Proof.Machine
end

section
/-! ## The steps of the chain keep the floor in order -/

namespace Sys2Proof.Machine

section
variable {s : State}

/-! ### Seats that lose their rights (R32, R33, R156) -/

/-- A seat that loses rights, is not armed any more, and is excused until it has left the floor. -/
theorem State.Orderly.updSeat_excused {lw le : List Nat} (h : s.Orderly lw le) {n : Nat} (hw : n ∈ lw) (he : n ∈ le) {f : Seat → Seat}
    (hplace : (f (s.seat n)).place = (s.seat n).place) (hbound : (f (s.seat n)).bound = (s.seat n).bound)
    (hp : (f (s.seat n)).present = true → (s.seat n).present = true) (ha : (f (s.seat n)).armed = false) :
    (s.updSeat n f).Orderly lw le := by
  have hother : ∀ m, m ≠ n → (s.updSeat n f).seat m = s.seat m := fun m hm => s.seat_updSeat_ne f hm
  have hactive : (s.updSeat n f).active = s.active := by simp [State.active]
  have hel : ∀ m, m ≠ n → (s.updSeat n f).eligible m = s.eligible m := fun m hm => by
    simp only [State.eligible, State.admitted, State.classOf, hactive, hother m hm]
  have hen : ∀ m, m ≠ n → (s.updSeat n f).entitledChair m = s.entitledChair m := fun m hm => by
    simp only [State.entitledChair, State.isChair, State.classOf, hother m hm]
  have hseat : ∀ m, ((s.updSeat n f).seat m).place = (s.seat m).place ∧ ((s.updSeat n f).seat m).bound = (s.seat m).bound := fun m => by
    obtain hm | ⟨rfl, hm⟩ := s.seat_updSeat_cases n m f <;> rw [hm]
    · exact ⟨rfl, rfl⟩
    · exact ⟨hplace, hbound⟩
  refine ⟨h.seated.of_view (by simp) hseat (by simp) (by simp) (by simp), fun e h1 h2 => ?_, fun e h1 h2 => ?_, fun m h1 h2 => ?_, ?_, ?_,
    fun hd m => ?_, fun m hm => ?_⟩
  · rw [hel e.seat fun hn => h2 (hn ▸ hw)]; exact h.waiting e (by simpa using h1) h2
  · rw [hel e.seat fun hn => h2 (hn ▸ he)]; exact h.speakers e (by simpa using h1) h2
  · rw [hen m fun hn => h2 (hn ▸ he)]; exact h.holder m (by simpa using h1) h2
  · simpa [hactive] using h.capacity
  · simpa [hactive] using h.maxLive
  · rw [State.updSeat_trunk] at hd
    obtain hm | ⟨rfl, hm⟩ := s.seat_updSeat_cases n m f <;> rw [hm]
    · exact h.guarded.absent hd m
    · exact Bool.eq_false_iff.2 fun ht => by simpa [h.guarded.absent hd m] using hp ht
  · by_cases hmn : m = n
    · subst hmn
      obtain hs | ⟨-, hs⟩ := s.seat_updSeat_cases m m f
      · rw [hs] at hm
        simpa [State.entitledChair, State.isChair, State.classOf, hs] using h.guarded.armed m hm
      · rw [hs, ha] at hm; cases hm
    · rw [hother m hmn] at hm
      rw [hen m hmn]; exact h.guarded.armed m hm

/-- R32: the seats of one sweep, lost first and then taken off the floor. -/
theorem State.Orderly.takeLosses (h : s.Orderly [] []) : s.takeLosses.Orderly [] [] := by
  have lost : ∀ (lost l : List Nat) (s : State), s.Orderly lost lost → (∀ n ∈ l, n ∈ lost) → (s.loseSeats l).Orderly lost lost := by
    intro lost l
    induction l with
    | nil => exact fun _ h _ => h
    | cons n l ih =>
      intro s h hl
      have hn := hl n List.mem_cons_self
      exact ih _ ((h.updSeat_excused (f := Seat.lose) hn hn rfl rfl (fun hf => nomatch hf) rfl).raise _) fun m hm =>
        hl m (List.mem_cons_of_mem n hm)
  unfold State.takeLosses
  generalize s.owed.losses.filter (fun n => (s.seat n).present) = l
  have hset : (s.setOwed { s.owed with losses := [] }).Orderly l l :=
    State.Orderly.mono (lw := []) (le := []) h.of_eq (by simp) (by simp)
  exact (lost l l _ hset fun _ => id).takeOff _

theorem State.Seated.raiseAll (h : s.Seated) (l : List Notice) : (s.raiseAll l).Seated := by
  obtain ⟨hw, hs, -, -⟩ := State.raiseAll_lists s l
  exact h.of_view (State.frozen_length (s.frozen_raiseAll l)) (by simp [State.raiseAll_seat])
    (by simp [State.raiseAll_chan]) hw hs

/-- R98: after a trunk break nobody is on the floor. -/
theorem State.Seated.breakFloor (h : s.Seated) :
    s.breakFloor.Seated ∧ s.breakFloor.waiting = [] ∧ s.breakFloor.speakers = [] ∧ (s.breakFloor.chan .p).seat = none := by
  have hcw := s.clearWaiting_waiting .trunkDown
  have hu : (s.clearWaiting .trunkDown).Seated := h.removeSome .trunkDown fun _ => id
  obtain ⟨-, u2, u3⟩ := State.removeList_lists .trunkDown s.waiting s
  change (s.clearWaiting .trunkDown).speakers = _ at u2
  change (s.clearWaiting .trunkDown).channels = _ at u3
  have hchan : ∀ c, (s.clearWaiting .trunkDown).chan c = s.chan c := fun c => by rw [State.chan, u3]; rfl
  rw [State.breakFloor_eq (fun e he => ((h.speaks e).1 he).1) hcw]
  generalize s.clearWaiting .trunkDown = u at hcw hu u2 hchan ⊢
  have hgrants : ∀ e ∈ s.grants, (s.chan e.chan).seat = some e.seat := fun e he => by
    obtain he | he := List.mem_append.1 he
    · exact ((h.speaks e).1 he).2.2
    · obtain ⟨h1, -⟩ | ⟨n, -, h2, h1, -⟩ := s.holder_cases
      · simp [h1] at he
      · rw [h1, List.mem_singleton] at he; rw [he]; exact h2
  have hnd : (s.grants.map Speaker.chan).Nodup := by
    rw [State.grants, List.map_append, List.nodup_append]
    have hp : ∀ c ∈ s.holderEntry.map Speaker.chan, c = .p := by
      obtain ⟨h1, -⟩ | ⟨n, -, -, h1, -⟩ := s.holder_cases <;> simp [h1]
    refine ⟨h.speakersOnce, ?_, fun c hc d hd hcd => ?_⟩
    · obtain ⟨h1, -⟩ | ⟨n, -, -, h1, -⟩ := s.holder_cases <;> simp [h1]
    · obtain ⟨e, he, rfl⟩ := List.mem_map.1 hc
      have ho := ((h.speaks e).1 he).1
      rw [hcd, hp d hd] at ho
      cases ho
  have hrel : (u.releaseList .trunkDown s.grants).Seated :=
    hu.releaseList .trunkDown (fun e he => by rw [hchan]; exact hgrants e he) hnd
  obtain ⟨r1, -, r3⟩ := State.releaseList_lists .trunkDown s.grants u
  obtain ⟨l1, l2, -, -⟩ := State.raiseAll_lists
    ((u.releaseList .trunkDown s.grants).withFloor (if s.holderEntry = [] then s.floor else .opened)) s.holderResumed
  refine ⟨(hrel.withFloor _).raiseAll _, l1.trans (r1.trans hcw), l2.trans (r3.trans (List.filter_eq_nil_iff.2 fun e he => ?_)), ?_⟩
  · rw [u2] at he
    simpa using ⟨e, List.mem_append_left _ he, ((h.speaks e).1 he).1, rfl⟩
  · rw [State.raiseAll_chan]
    refine (congrArg Channel.seat (State.releaseList_chan .trunkDown s.grants u .p) : _).trans ?_
    split
    · rfl
    · next hp =>
      rw [hchan]
      by_contra hs
      obtain ⟨n, hn⟩ := Option.ne_none_iff_exists'.1 hs
      refine hp (List.mem_map.2 ⟨{ chan := .p, seat := n }, List.mem_append_right _ ?_, rfl⟩)
      simp [State.holderEntry, (h.held .p).2 hs, hn]

theorem State.Orderly.breakTrunk (h : s.Orderly [] []) (k : Nat) : (s.breakTrunk k).Orderly [] [] := by
  unfold State.breakTrunk
  generalize hu : ({ s with trunk := .down }.raise (.trunkDown k)).loseAllSeats = u
  have hseat : ∀ n, u.seat n = (s.seat n).lose := fun n => by rw [← hu, State.seat_loseAllSeats, State.seat_raise]; rfl
  have hg : u.Guarded := ⟨fun _ n => by rw [hseat]; rfl, fun n hn => by rw [hseat] at hn; cases hn⟩
  have ht : u.Seated := by
    subst hu
    refine h.seated.of_view ?_ (fun n => ?_) (fun c => ?_) ?_ ?_
    · simp [State.loseAllSeats]
    · rw [hseat]; exact ⟨rfl, rfl⟩
    · rw [State.chan, State.loseAllSeats]; simp [State.chan]
    · simp [State.loseAllSeats]
    · simp [State.loseAllSeats]
  obtain ⟨h1, h2, h3, h4⟩ := ht.breakFloor
  exact hg.orderly u.frozen_breakFloor h1 h2 h3 fun n hn => by rw [h4] at hn; cases hn

theorem State.Orderly.declareLost (h : s.Orderly [] []) (k : Nat) : (s.declareLost k).Orderly [] [] := by
  have h1 : { s with lostRun := min (s.lostRun + 1) Config.lostRunLimit, discarded := [] }.Orderly [] [] := h.of_eq
  unfold State.declareLost
  simp only
  split <;> [exact h1.breakTrunk k; exact h1]

theorem State.Orderly.declareOwedLoss (h : s.Orderly [] []) : s.declareOwedLoss.Orderly [] [] := by
  unfold State.declareOwedLoss
  split
  · exact h
  · exact State.Orderly.declareLost (s := s.setOwed { s.owed with lostSweep := none }) h.of_eq _

theorem State.Orderly.lostSweepStep (h : s.Orderly [] []) : s.lostSweepStep.Orderly [] [] := by
  unfold State.lostSweepStep State.declareAwaitedLoss
  split
  · exact h.declareOwedLoss
  · split
    · exact h
    · split
      · exact State.Orderly.declareLost (s := { s with awaiting := none }) h.of_eq _
      · exact h

/-! ### The audit (R152, R156) -/

theorem State.Orderly.compareAll (h : s.Orderly [] []) (l : List AuditEntry) : (s.compareAll l).Orderly [] [] := by
  refine State.Orderly.foldl (fun u e hu => ?_) l h
  have hk : ∀ (t : Seat) (k : Nat), t.Keeps (t.compare k e) ∧ (t.compare k e).present = t.present := fun t k => by
    unfold Seat.compare; split <;> exact ⟨⟨rfl, rfl, rfl, id, id, .inl⟩, rfl⟩
  unfold State.compareEntry
  split
  · exact hu.updSeat _ (hk _ _).1 (hk _ _).2
  · exact hu

/-- R156: the reported seat leaves the floor. -/
theorem State.Orderly.removeReported {n : Nat} (h : s.Orderly [n] [n]) : (s.removeReported n).Orderly [] [] := by
  have hidle : ∀ u : State, u.Orderly [] [n] → (u.seat n).place ≠ .live → u.Orderly [] [] := fun u hu hn =>
    hu.mono (by simp) fun m hb hm => by
      rw [List.mem_singleton] at hm
      subst hm
      exact absurd ((hu.seated.live m).2 hb) hn
  have hunlisted : (s.seat n).place ≠ .waiting → s.Orderly [] [n] := fun hn =>
    h.mono (fun e he hm => absurd (List.mem_singleton.1 hm) (h.seated.not_listed hn e he)) fun _ _ => id
  unfold State.removeReported
  split
  · next hn => exact hidle s (hunlisted (by simp [hn])) (by simp [hn])
  · next hn =>
    refine hidle _ (State.Orderly.removeWaiting h (by simp [hn]) _) ?_
    rw [State.removeWaiting_seat, if_pos rfl]; simp
  · next hn => exact State.Orderly.endSeat (hunlisted (by simp [hn])) _

theorem State.Orderly.reportOne (h : s.Orderly [] []) : s.reportOne.Orderly [] [] := by
  unfold State.reportOne
  split
  · exact h
  · next n _ =>
    split
    · exact h
    · next sense _ =>
      have hraised : (s.raise (.discrepancy n sense)).Orderly [n] [n] := (h.raise _).mono (by simp) (by simp)
      have hflag : ((s.raise (.discrepancy n sense)).updSeat n Seat.reported).Orderly [n] [n] :=
        hraised.updSeat_excused (by simp) (by simp) rfl rfl id rfl
      exact State.Orderly.removeReported (s := { (s.raise (.discrepancy n sense)).updSeat n Seat.reported with cursor := n }) hflag.of_eq

theorem State.Orderly.takeAudit (h : s.Orderly [] []) : s.takeAudit.Orderly [] [] := by
  unfold State.takeAudit
  split
  · exact h
  · exact (State.Orderly.compareAll (s := s.setOwed { s.owed with audit := none }) h.of_eq _).reportOne

theorem State.Orderly.settleSweep (h : s.Orderly [] []) : s.settleSweep.Orderly [] [] :=
  h.declareOwedLoss.presentAll.takeLosses.takeAudit

/-! ### The return of a sweep (R28, R38, R46) -/

theorem State.Orderly.trunkReturned (h : s.Orderly [] []) (k : Nat) : (s.trunkReturned k).Orderly [] [] ∧ (s.trunkReturned k).trunk = .up := by
  rw [State.trunkReturned_eq]
  have hup : { s with lostRun := 0, trunk := .up }.Orderly [] [] := h.of_keeps rfl (fun n => .refl _) fun hd => nomatch hd
  refine ⟨hup.raiseAll _, ?_⟩
  exact (congrArg (fun u : State => u.trunk) (State.frozen_raiseAll { s with lostRun := 0, trunk := .up } _) : _)

/-- R28, R38, R46: an entry of a returned sweep takes no right away, and arms only an entitled chair. -/
theorem Seat.keeps_swept (t : Seat) (m : Settings) (u : UpHalf) : t.Keeps (t.swept m u) := by
  unfold Seat.swept
  split
  · refine ⟨rfl, rfl, rfl, fun _ => rfl, id, fun ha => ?_⟩
    simp only [Seat.answered, Seat.armedAfter] at ha
    split at ha
    · simp only [Bool.and_eq_true, beq_iff_eq, Bool.not_eq_true'] at ha
      exact .inr ⟨ha.1.1, ha.1.2, rfl, ha.2⟩
    · cases ha
    · exact .inl ha
  · split
    · exact ⟨rfl, rfl, rfl, id, id, .inl⟩
    · exact .refl t

theorem State.seat_withTable (u : State) (f : Nat → Seat) (o : Owed) {n : Nat} (hn : n ∈ seatNumbers) :
    ({ u with seats := seatNumbers.map f, owed := o } : State).seat n = f n := by
  obtain ⟨h1, h2⟩ := mem_seatNumbers.1 hn
  obtain ⟨j, rfl⟩ : ∃ j, n = j + 1 := ⟨n - 1, by omega⟩
  have hj : j < 200 := by omega
  simp [State.seat, seatNumbers, Config.seatCount, List.getD_eq_getElem?_getD, hj, Nat.add_comm]

theorem State.Orderly.handEntries (h : s.Orderly [] []) (hup : s.trunk = .up) (k : Nat) (ups : List UpHalf) :
    (s.handEntries k ups).Orderly [] [] := by
  have hl := h.seated.seats
  rw [State.handEntries_eq hl]
  have hr := h.raiseAll ((s.foundSeats ups).map Notice.seatFound)
  have hrl := hr.seated.seats
  have htrunk : (s.raiseAll ((s.foundSeats ups).map Notice.seatFound)).trunk = .up :=
    (congrArg (fun u : State => u.trunk) (s.frozen_raiseAll _) : _).trans hup
  have hseat := State.raiseAll_seat s ((s.foundSeats ups).map Notice.seatFound)
  generalize s.raiseAll ((s.foundSeats ups).map Notice.seatFound) = u at hr hrl htrunk hseat ⊢
  refine hr.of_keeps (by rw [hrl]; simp [seatNumbers, Config.seatCount]) (fun n => ?_) fun hd => by cases htrunk.symm.trans hd
  by_cases hn : n ∈ seatNumbers
  · rw [State.seat_withTable _ _ _ hn, hseat]; exact Seat.keeps_swept _ _ _
  · rw [mem_seatNumbers] at hn
    rw [State.seat_out u (by omega), State.seat_out _ (by simp [seatNumbers, Config.seatCount]; omega)]
    exact .refl _

theorem State.Orderly.takeReturn (h : s.Orderly [] []) : s.takeReturn.Orderly [] [] := by
  unfold State.takeReturn
  split
  · exact h
  · next r _ =>
    obtain ⟨h1, h2⟩ := (State.Orderly.settleSweep (s := s.setOwed { s.owed with returned := none }) h.of_eq).trunkReturned r.sweep
    exact (h1.handEntries h2 _ _).closePresentation

/-! ### The interval start (R4 to R7, R49, R111, R115) -/

theorem State.Orderly.takeBlink (h : s.Orderly [] []) : s.takeBlink.Orderly [] [] := by
  unfold State.takeBlink
  split <;> [exact h.of_eq; exact h]

theorem State.Orderly.takeLockout (h : s.Orderly [] []) (n : Nat) : (s.takeLockout n).Orderly [] [] := by
  unfold State.takeLockout
  split
  · have hupd : (s.updSeat n fun t => { t with lockout := t.lockout - 1 }).Orderly [] [] :=
      h.updSeat n ⟨rfl, rfl, rfl, id, id, .inl⟩ rfl
    exact hupd.of_eq
  · exact h

theorem State.Orderly.takeLockouts (h : s.Orderly [] []) : s.takeLockouts.Orderly [] [] :=
  State.Orderly.foldl (fun _ n h => h.takeLockout n) _ h

theorem State.Orderly.takeTimers (h : s.Orderly [] []) : s.takeTimers.Orderly [] [] :=
  State.Orderly.foldl (fun _ c h => by unfold State.takeTimer; split <;> [exact h.tick c; exact h]) _ h

theorem State.Orderly.settleInterval (h : s.Orderly [] []) : s.settleInterval.Orderly [] [] :=
  h.takeBlink.takeLockouts.takeTimers.declareOwedLoss.takeReturn

theorem State.Orderly.emitSweep (h : s.Orderly [] []) : s.emitSweep.Orderly [] [] := by
  rw [State.emitSweep_eq]
  exact h.mapSeats rfl (fun x => ⟨rfl, rfl, rfl, id, id, .inl⟩) (fun _ => rfl)

theorem State.Orderly.countHeld (h : s.Orderly [] []) : s.countHeld.Orderly [] [] := by
  refine h.of_same s.frozen_countHeld (fun _ => ⟨rfl, rfl⟩) (fun c => ?_) rfl rfl
  rw [State.chan_countHeld, Channel.countHeld]
  split <;> exact ⟨Iff.rfl, rfl⟩

theorem State.Orderly.countLockouts (h : s.Orderly [] []) : s.countLockouts.Orderly [] [] := by
  have hk : ∀ x : Seat, x.Keeps x.countLockout ∧ x.countLockout.present = x.present := fun x => by
    unfold Seat.countLockout; split <;> exact ⟨⟨rfl, rfl, rfl, id, id, .inl⟩, rfl⟩
  exact h.mapSeats rfl (fun x => (hk x).1) (fun x => (hk x).2)

theorem State.Orderly.countInterval (h : s.Orderly [] []) : s.countInterval.Orderly [] [] :=
  State.Orderly.foldl (fun _ c h => by unfold State.countTimer; split <;> [exact h.of_eq; exact h.tick c]) _ h.countHeld.countLockouts

theorem State.Orderly.startInterval (h : s.Orderly [] []) (o : IntervalOrder) : (s.startInterval o).Orderly [] [] := by
  unfold State.startInterval
  split
  · cases o with
    | emissionFirst => exact h.settleInterval.emitSweep.countInterval
    | countsFirst => exact h.settleInterval.countInterval.takeLockouts.takeTimers.emitSweep
  · exact h

/-! ### The frame period and the message unit -/

theorem State.Orderly.takeLock (h : s.Orderly [] []) : s.takeLock.Orderly [] [] := by
  unfold State.takeLock
  split <;> [exact h.of_eq; exact h]

theorem State.Orderly.takeUnlock (h : s.Orderly [] []) : s.takeUnlock.Orderly [] [] := by
  rw [State.sansUnlock_eq s.sansUnlock_takeUnlock]; exact h.of_eq

theorem State.Orderly.beforeFrame (h : s.Orderly [] []) : s.beforeFrame.Orderly [] [] := by
  have h1 := h.takeLock.takeUnlock.takeAllFreed.startInterval .emissionFirst
  unfold State.beforeFrame State.settleFirst
  split <;> [exact h1.settleSweep; exact h1]

theorem State.Orderly.framePeriod (h : s.Orderly [] []) (r b : Option (List Byte)) : (s.framePeriod r b).Orderly [] [] := by
  rw [State.sansFrame_eq (s.sansFrame_framePeriod r b)]; exact h.of_eq

theorem State.Orderly.of_input {t : State} (h : s.Orderly [] []) (e : t.sansInput = s.sansInput) : t.Orderly [] [] := by
  rw [State.sansInput_eq e]; exact h.of_eq

theorem State.Orderly.of_output {t : State} (h : s.Orderly [] []) (e : t.sansOutput = s.sansOutput) : t.Orderly [] [] := by
  rw [State.sansOutput_eq e]; exact h.of_eq

end

end Sys2Proof.Machine
end

section
/-! ## A load of the seat table (R20 to R24, R126) -/

namespace Sys2Proof.Machine

/-- R21: the entry of seat `n` after a load of `l` from seat `first` on. -/
def State.loadedConfig (s : State) (first : Nat) (l : List SeatConfig) (n : Nat) : SeatConfig :=
  if first ≤ n then l.getD (n - first) (s.seat n).config else (s.seat n).config

theorem Seat.withConfig_self (t : Seat) : t.withConfig t.config = t := if_pos rfl

/-- R21, R46: everything a new entry does to a seat. -/
theorem Seat.withConfig_eq (t : Seat) (e : SeatConfig) : t.withConfig e =
    { t with config := e, armed := t.armed && (e == t.config || e.enabled && e.cls == .chair) } := by
  unfold Seat.withConfig
  split
  · next he => simp [← he]
  · next he =>
    have : (e == t.config) = false := beq_eq_false_iff_ne.2 (Ne.symm he)
    rw [this, Bool.false_or, Bool.and_assoc]

theorem State.writeConfigs_cons (s : State) (first : Nat) (e : SeatConfig) (l : List SeatConfig) :
    s.writeConfigs first (e :: l) = (s.updSeat first fun t => t.withConfig e).writeConfigs (first + 1) l := rfl

/-- Only seats are written. -/
theorem State.writeConfigs_eq (s : State) (first : Nat) (l : List SeatConfig) :
    s.writeConfigs first l = { s with seats := (s.writeConfigs first l).seats } := by
  induction l generalizing s first with
  | nil => rfl
  | cons e l ih =>
    rw [State.writeConfigs_cons]
    refine (ih _ _).trans ?_
    cases first <;> rfl

theorem State.writeConfigs_length (s : State) (first : Nat) (l : List SeatConfig) :
    (s.writeConfigs first l).seats.length = s.seats.length := by
  induction l generalizing s first with
  | nil => rfl
  | cons e l ih => rw [State.writeConfigs_cons, ih, State.updSeat_length]

/-- Beyond the first entry of a run the rest of it is read. -/
theorem State.loadedConfig_cons_of_lt (s : State) {first n : Nat} (e : SeatConfig) (l : List SeatConfig) (h : first < n) :
    s.loadedConfig first (e :: l) n = s.loadedConfig (first + 1) l n := by
  have hn : n - first = (n - (first + 1)) + 1 := by omega
  rw [State.loadedConfig, State.loadedConfig, if_pos h.le, if_pos (show first + 1 ≤ n from h), hn, List.getD_cons_succ]

theorem State.loadedConfig_of_lt (s : State) {first n : Nat} (l : List SeatConfig) (h : n < first) :
    s.loadedConfig first l n = (s.seat n).config := if_neg (by omega)

/-- R21: each seat of the table after a load. -/
theorem State.seat_writeConfigs (s : State) (first : Nat) (l : List SeatConfig) {n : Nat} (h1 : 1 ≤ n) (h2 : n ≤ s.seats.length) :
    (s.writeConfigs first l).seat n = (s.seat n).withConfig (s.loadedConfig first l n) := by
  induction l generalizing s first with
  | nil => simp [State.writeConfigs, State.loadedConfig, Seat.withConfig_self]
  | cons e l ih =>
    rw [State.writeConfigs_cons, ih _ _ (by simpa using h2)]
    obtain hlt | rfl | hlt := lt_trichotomy n first
    · rw [State.loadedConfig_of_lt _ _ hlt, State.loadedConfig_of_lt _ _ (by omega), State.seat_updSeat_ne _ _ (by omega)]
    · rw [State.loadedConfig_of_lt _ _ (by omega), Seat.withConfig_self, State.seat_updSeat_same _ _ h1 h2]
      simp [State.loadedConfig]
    · rw [State.loadedConfig_cons_of_lt _ _ _ hlt, State.loadedConfig, State.loadedConfig, State.seat_updSeat_ne _ _ (by omega)]

/-- R21: the seats whose entry a load changes, ascending. -/
theorem State.changedSeats_eq (s : State) (first : Nat) (l : List SeatConfig) :
    s.changedSeats first l = (List.range' first l.length).filter fun n => (s.seat n).config != s.loadedConfig first l n := by
  induction l generalizing first with
  | nil => rfl
  | cons e l ih =>
    have hhead : s.loadedConfig first (e :: l) first = e := by simp [State.loadedConfig]
    have htail : (List.range' (first + 1) l.length).filter (fun n => (s.seat n).config != s.loadedConfig first (e :: l) n) =
        (List.range' (first + 1) l.length).filter fun n => (s.seat n).config != s.loadedConfig (first + 1) l n := by
      refine List.filter_congr fun n hn => ?_
      rw [List.mem_range'_1] at hn
      rw [State.loadedConfig_cons_of_lt s e l (show first < n by omega)]
    rw [State.changedSeats, ih, List.length_cons, List.range'_succ, List.filter_cons, hhead, htail]
    by_cases he : (s.seat first).config = e <;> simp [he]

/-- A seat outside the run keeps its entry. -/
theorem State.mem_changedSeats (s : State) (first : Nat) (l : List SeatConfig) (n : Nat) :
    n ∈ s.changedSeats first l ↔ s.loadedConfig first l n ≠ (s.seat n).config := by
  rw [State.changedSeats_eq, List.mem_filter, List.mem_range'_1, bne_iff_ne, ne_comm, and_iff_right_iff_imp]
  intro hne
  by_contra hout
  refine hne ?_
  unfold State.loadedConfig
  split
  · rw [List.getD_eq_default _ _ (by omega)]
  · rfl

/-- R22: when a seat's entry makes it unfit for its place, by the place. -/
theorem State.unfit_of_waiting {s : State} {n : Nat} (h : (s.seat n).place = .waiting) :
    s.unfit n = (!(s.seat n).config.enabled || !s.admitted n) := by simp [State.unfit, h]

theorem State.unfit_of_ordinary {s : State} {n : Nat} {c : Chan} (hb : (s.seat n).bound = some c) (hc : c ≠ .p)
    (h : (s.seat n).place = .live) : s.unfit n = (!(s.seat n).config.enabled || !s.admitted n) := by
  unfold State.unfit
  rw [h, hb]
  cases c with
  | p => exact absurd rfl hc
  | _ => rfl

theorem State.unfit_of_holder {s : State} {n : Nat} (hb : (s.seat n).bound = some .p) (h : (s.seat n).place = .live) :
    s.unfit n = (!(s.seat n).config.enabled || !s.isChair n) := by simp [State.unfit, h, hb]

section
variable {s : State}

/-- R22, R126: after the write only the seats that no longer fit their place have to leave it. -/
theorem State.Orderly.writeConfigs (h : s.Orderly [] []) (first : Nat) (l : List SeatConfig) :
    (s.writeConfigs first l).Orderly ((s.changedSeats first l).filter (s.writeConfigs first l).unfit)
      ((s.changedSeats first l).filter (s.writeConfigs first l).unfit) := by
  have heq := s.writeConfigs_eq first l
  have hlen := s.writeConfigs_length first l
  have hseat : ∀ n, (s.writeConfigs first l).seat n = s.seat n ∨
      (s.writeConfigs first l).seat n = (s.seat n).withConfig (s.loadedConfig first l n) := fun n => by
    by_cases hn : 1 ≤ n ∧ n ≤ s.seats.length
    · exact .inr (s.seat_writeConfigs first l hn.1 hn.2)
    · exact .inl (by rw [State.seat_out _ (by omega), State.seat_out s (by omega)])
  have hmem := s.mem_changedSeats first l
  generalize s.writeConfigs first l = t at heq hlen hseat ⊢
  generalize s.changedSeats first l = changed at hmem ⊢
  have hactive : t.active = s.active := by rw [heq]; rfl
  have hkept : ∀ n, n ∉ changed → t.seat n = s.seat n := fun n hn => by
    rw [hmem, ne_eq, not_not] at hn
    obtain hs | hs := hseat n
    · exact hs
    · rw [hs, hn, Seat.withConfig_self]
  have hfields : ∀ n, (t.seat n).place = (s.seat n).place ∧ (t.seat n).bound = (s.seat n).bound ∧
      (t.seat n).present = (s.seat n).present ∧ (t.seat n).flagged = (s.seat n).flagged := fun n => by
    obtain hs | hs := hseat n <;> rw [hs]
    · exact ⟨rfl, rfl, rfl, rfl⟩
    · rw [Seat.withConfig_eq]; exact ⟨rfl, rfl, rfl, rfl⟩
  have hfree : ∀ n, n ∉ changed.filter t.unfit → n ∈ changed → t.unfit n = false := fun n h1 h2 => by
    simpa [h2] using h1
  have heligible : ∀ n, n ∉ changed.filter t.unfit → ((t.seat n).place = .waiting ∨ ∃ c, c ≠ .p ∧ (t.seat n).place = .live ∧
      (t.seat n).bound = some c) → s.eligible n = true → t.eligible n = true := fun n hn hp he => by
    by_cases hc : n ∈ changed
    · have hu := hfree n hn hc
      have hok : ((t.seat n).config.enabled && t.admitted n) = true := by
        obtain hw | ⟨c, hne, hl, hb⟩ := hp
        · simpa [State.unfit_of_waiting hw] using hu
        · simpa [State.unfit_of_ordinary hb hne hl] using hu
      simp only [State.eligible, Bool.and_eq_true, (hfields n).2.2.1, (hfields n).2.2.2] at he hok ⊢
      exact ⟨⟨⟨hok.1, he.1.1.2⟩, he.1.2⟩, hok.2⟩
    · simpa only [State.eligible, State.admitted, State.classOf, hactive, hkept n hc] using he
  have ht : t.Seated := h.seated.of_view hlen (fun n => ⟨(hfields n).1, (hfields n).2.1⟩)
    (fun c => by rw [heq]; exact ⟨Iff.rfl, rfl⟩) (by rw [heq]) (by rw [heq])
  have hchan : ∀ c, t.chan c = s.chan c := fun c => by rw [heq]; rfl
  have hwait : t.waiting = s.waiting := by rw [heq]
  have hspeak : t.speakers = s.speakers := by rw [heq]
  refine ⟨ht, fun e he hn => ?_, fun e he hn => ?_, fun n hp hn => ?_, ?_, ?_, fun hd n => ?_, fun n ha => ?_⟩
  · exact heligible _ hn (.inl ((ht.listed _).2 (List.mem_map_of_mem he))) (h.waiting e (hwait ▸ he) (by simp))
  · obtain ⟨ho, -, hc⟩ := (ht.speaks e).1 he
    have hb := ht.bound_of_seat hc
    refine heligible _ hn (.inr ⟨e.chan, ?_, (ht.live _).2 (by simp [hb]), hb⟩) (h.speakers e (hspeak ▸ he) (by simp))
    rintro hp; rw [hp] at ho; cases ho
  · have he := h.holder n (hchan .p ▸ hp) (by simp)
    have hb := ht.bound_of_seat hp
    by_cases hc : n ∈ changed
    · have hu := hfree n hn hc
      have hok : ((t.seat n).config.enabled && t.isChair n) = true := by
        simpa [State.unfit_of_holder hb ((ht.live n).2 (by simp [hb]))] using hu
      simp only [State.entitledChair, Bool.and_eq_true, (hfields n).2.2.1, (hfields n).2.2.2] at he hok ⊢
      exact ⟨⟨⟨hok.1, he.1.1.2⟩, he.1.2⟩, hok.2⟩
    · simpa only [State.entitledChair, State.isChair, State.classOf, hkept n hc] using he
  · rw [hactive, hwait]; exact h.capacity
  · rw [hactive, hspeak]; exact h.maxLive
  · rw [(hfields n).2.2.1]; exact h.guarded.absent (by rw [heq] at hd; exact hd) n
  · obtain hs | hs := hseat n
    · rw [hs] at ha
      simpa only [State.entitledChair, State.isChair, State.classOf, hs] using h.guarded.armed n ha
    · rw [hs, Seat.withConfig_eq] at ha
      simp only [Bool.and_eq_true, Bool.or_eq_true, beq_iff_eq] at ha
      have he := h.guarded.armed n ha.1
      simp only [State.entitledChair, State.isChair, State.classOf, Bool.and_eq_true, beq_iff_eq, hs, Seat.withConfig_eq] at he ⊢
      obtain ⟨⟨⟨he1, he2⟩, he3⟩, he4⟩ := he
      obtain hc | ⟨hc1, hc2⟩ := ha.2
      · rw [hc]; exact ⟨⟨⟨he1, he2⟩, he3⟩, he4⟩
      · exact ⟨⟨⟨hc1, he2⟩, he3⟩, hc2⟩

theorem State.Orderly.loadSeats (h : s.Orderly [] []) (tag : Byte) (first : Nat) (l : List SeatConfig) :
    (s.loadSeats tag first l).Orderly [] [] := ((h.writeConfigs first l).takeOff _).reply tag _

end

end Sys2Proof.Machine
end

section
/-! ## Every command keeps the floor in order -/

namespace Sys2Proof.Machine

section
variable {s : State}

/-! ### The floor's directives (R93 to R96) -/

theorem State.Orderly.operatorGrant (h : s.Orderly [] []) (tag : Byte) (n : Nat) : (s.operatorGrant tag n).Orderly [] [] := by
  unfold State.operatorGrant
  split
  · exact h.reply tag _
  split
  · exact h.reply tag _
  split
  · exact h.reply tag _
  split
  · next he =>
    split
    · exact h.reply tag _
    · next hb =>
      unfold State.grantByOperator
      split
      · exact h.reply tag _
      · next hr => exact (h.grant (fun hl => (h.seated.live n).1 hl hb) he hr _).reply tag _
  · exact h.reply tag _

theorem State.Orderly.operatorRevoke (h : s.Orderly [] []) (tag : Byte) (n : Nat) : (s.operatorRevoke tag n).Orderly [] [] := by
  unfold State.operatorRevoke
  split
  · exact ((h.excuse n).endSeat _).reply tag _
  · next hn => exact (h.removeWaiting_of_waiting hn _).reply tag _
  · exact h.reply tag _

theorem State.Orderly.operatorEnqueue (h : s.Orderly [] []) (tag : Byte) (n i : Nat) : (s.operatorEnqueue tag n i).Orderly [] [] := by
  unfold State.operatorEnqueue
  split
  · exact h.reply tag _
  split
  swap
  · exact h.reply tag _
  next he =>
  simp only [Bool.and_eq_true, beq_iff_eq] at he
  split
  · exact h.reply tag _
  next c ha =>
  split
  · exact h.reply tag _
  next hm =>
  split
  · next hlt =>
    have hcap : ∀ x, s.active = some x → s.waiting.length < x.capacity := fun x hx => by
      rw [ha] at hx; cases hx
      simpa [Context.capacity, hm] using hlt
    have hpos : fitPosition s.waiting.length i - 1 ≤ s.waiting.length := by
      have := (clamp_range (lo := 1) (hi := s.waiting.length + 1) (by omega) i).2
      unfold fitPosition; omega
    exact ((h.insertWaiting he.2 he.1 hcap _ hpos).fill).reply tag _
  · exact h.reply tag _

theorem State.Orderly.operatorRemove (h : s.Orderly [] []) (tag : Byte) (n : Nat) : (s.operatorRemove tag n).Orderly [] [] := by
  unfold State.operatorRemove
  split
  · next hn => exact (h.removeWaiting_of_waiting hn _).reply tag _
  · exact h.reply tag _
  · exact h.reply tag _

theorem State.Orderly.operatorNext (h : s.Orderly [] []) (tag : Byte) : (s.operatorNext tag).Orderly [] [] := by
  unfold State.operatorNext
  split <;> [exact h.reply tag _; exact h.reply tag _; exact h.takeNext.reply tag _]

theorem State.Orderly.operatorCancel (h : s.Orderly [] []) (tag : Byte) : (s.operatorCancel tag).Orderly [] [] := by
  unfold State.operatorCancel
  split <;> [exact h.reply tag _; exact h.cancelFloor.reply tag _]

theorem State.Orderly.operatorExtend (h : s.Orderly [] []) (tag : Byte) (n k : Nat) : (s.operatorExtend tag n k).Orderly [] [] := by
  unfold State.operatorExtend
  split
  · exact h.reply tag _
  · exact h.reply tag _
  · next c _ _ =>
    split
    · exact h.reply tag _
    · refine State.Orderly.reply ?_ tag _
      exact h.setChan c Iff.rfl rfl

/-! ### The other directives -/

theorem Seat.keeps_cleared (t : Seat) : t.Keeps t.cleared :=
  ⟨rfl, rfl, rfl, id, fun hf => (nomatch hf), fun ha => .inl (by simp [Seat.cleared] at ha; exact ha.1)⟩

theorem State.Orderly.clearFlag (h : s.Orderly [] []) (tag : Byte) (k : Nat) : (s.clearFlag tag k).Orderly [] [] := by
  unfold State.clearFlag
  split
  · exact State.Orderly.reply (s := { s with seats := s.seats.map Seat.cleared })
      (h.mapSeats rfl Seat.keeps_cleared fun _ => rfl) tag _
  split
  · exact (h.updSeat k (Seat.keeps_cleared _) rfl).reply tag _
  · exact h.reply tag _

theorem State.Orderly.setGeneral (h : s.Orderly [] []) (tag : Byte) (r : GeneralRecord) : (s.setGeneral tag r).Orderly [] [] :=
  (State.Orderly.fill (s := { s with settings := r.settings, rotation := r.rotation.getD s.rotation }) h.of_eq).reply tag _

theorem State.orderly_reset : State.reset.Orderly [] [] := State.FloorFits.orderly State.floorAgrees_reset State.floorFits_reset

/-- The oldest entry gone from the input buffer. -/
theorem State.Orderly.oldest {u : State} {e : Entry} (h : s.Orderly [] []) (ho : s.oldest = some (e, u)) : u.Orderly [] [] := by
  unfold State.oldest at ho
  split at ho
  · cases ho
  · split at ho <;> cases ho
    exact h.of_eq

/-- A dispatch keeps the floor in order where the directive's owner does. -/
theorem State.Orderly.dispatch (h : s.Orderly [] []) (k : Nat) {owner : State → Byte → Directive → State}
    (ho : ∀ (u : State) (tag : Byte) (d : Directive), u.Orderly [] [] → (owner u tag d).Orderly [] []) :
    (s.dispatch k owner).Orderly [] [] := by
  unfold State.dispatch
  split
  · exact h
  · next hu =>
    split
    · split
      · exact (h.oldest hu).reply _ _
      · exact ho _ _ _ (h.oldest hu)
    · exact h

theorem State.Orderly.dispatchSkip (h : s.Orderly [] []) : s.dispatchSkip.Orderly [] [] := by
  unfold State.dispatchSkip
  split
  · exact h
  · next ho => split <;> [exact (h.oldest ho).reply _ _; exact h]

theorem State.Orderly.dispatchUnknown (h : s.Orderly [] []) : s.dispatchUnknown.Orderly [] [] := by
  unfold State.dispatchUnknown
  split
  · exact h
  · next ho => split <;> [exact (h.oldest ho).reply _ _; exact h]

/-- Every command keeps the floor in order. -/
theorem State.Orderly.exec {t : State} (h : s.Orderly [] []) {c : Instr} (ht : exec c s = .next t) : t.Orderly [] [] := by
  cases c with
  | pinReset => cases ht; exact State.orderly_reset.of_eq
  | framePeriod r b => cases ht; exact h.beforeFrame.framePeriod r b
  | headLinkLock => cases ht; exact h.takeLock
  | headLinkUnlock => cases ht; exact h.takeUnlock
  | sweepIntervalStart o => cases ht; exact h.startInterval o
  | blinkPhaseToggle => cases ht; exact h.takeBlink
  | lockoutExpiry n => cases ht; exact h.takeLockout n
  | expired c => cases ht; split <;> [exact h.tick c; exact h]
  | timeOver c => cases ht; split <;> [exact h.tick c; exact h]
  | lostSweep => cases ht; exact h.lostSweepStep
  | trunkDown => cases ht; split <;> [exact h.lostSweepStep; exact h]
  | sweepReturned => cases ht; exact h.takeReturn
  | seatLost => cases ht; exact h.takeLosses
  | request n => cases ht; exact h.present n .request fun u k hu hn => hu.judgeRequest (hn rfl) k
  | withdraw n => cases ht; exact h.present n .withdraw fun u _ hu _ => hu.judgeWithdraw n
  | nextAction n => cases ht; exact h.present n .next fun u _ hu _ => hu.judgeNext
  | cancelAction n => cases ht; exact h.present n .cancel fun u _ hu _ => hu.judgeCancel
  | priorityHeld n => cases ht; exact h.present n .priorityHeld fun u _ hu _ => hu.judgePriorityHeld n
  | priorityReleased n => cases ht; exact h.present n .priorityReleased fun u _ hu _ => hu.judgePriorityReleased n
  | auditSweep => cases ht; exact h.takeAudit
  | channelFreed c => cases ht; exact h.takeFreed c
  | messageHeader => cases ht; exact h.of_input s.sansInput_takeHeader
  | directiveComplete => cases ht; exact h.of_eq
  | skipEntryDispatch => cases ht; exact h.dispatchSkip
  | unknownKind => cases ht; exact h.dispatchUnknown
  | loadSeats => cases ht; exact h.dispatch 1 fun u tag d hu => by split <;> [exact hu.loadSeats tag _ _; exact hu]
  | readSeats => cases ht; exact h.dispatch 2 fun u tag d hu => by split <;> [exact hu.reply tag _; exact hu]
  | setGeneral => cases ht; exact h.dispatch 3 fun u tag d hu => by split <;> [exact hu.setGeneral tag _; exact hu]
  | stageItem => cases ht; exact h.dispatch 4 fun u tag d hu => by split <;> [exact hu.stageItem tag _; exact hu]
  | advanceItem => cases ht; exact h.dispatch 5 fun u tag d hu => by split <;> [exact hu.advanceItem tag; exact hu]
  | flushAgenda => cases ht; exact h.dispatch 6 fun u tag d hu => by split <;> [exact hu.flushAgenda tag; exact hu]
  | grant => cases ht; exact h.dispatch 7 fun u tag d hu => by split <;> [exact hu.operatorGrant tag _; exact hu]
  | revoke => cases ht; exact h.dispatch 8 fun u tag d hu => by split <;> [exact hu.operatorRevoke tag _; exact hu]
  | enqueue => cases ht; exact h.dispatch 9 fun u tag d hu => by split <;> [exact hu.operatorEnqueue tag _ _; exact hu]
  | remove => cases ht; exact h.dispatch 10 fun u tag d hu => by split <;> [exact hu.operatorRemove tag _; exact hu]
  | next => cases ht; exact h.dispatch 11 fun u tag d hu => by split <;> [exact hu.operatorNext tag; exact hu]
  | cancelAll => cases ht; exact h.dispatch 12 fun u tag d hu => by split <;> [exact hu.operatorCancel tag; exact hu]
  | extend => cases ht; exact h.dispatch 13 fun u tag d hu => by split <;> [exact hu.operatorExtend tag _ _; exact hu]
  | clearFlag => cases ht; exact h.dispatch 14 fun u tag d hu => by split <;> [exact hu.clearFlag tag _; exact hu]
  | readFloor => cases ht; exact h.dispatch 15 fun u tag d hu => by split <;> [exact hu.reply tag _; exact hu]
  | restart =>
    cases ht
    exact h.dispatch 16 fun u tag d hu => by
      split <;> [exact State.orderly_reset.of_eq (t := u.restart tag); exact hu]
  | messageStart => cases ht; exact h.of_output s.sansOutput_startMessage
  | messageSent => cases ht; exact h.of_output s.sansOutput_finishMessage

end

/-- Settles O59: the seats, channels and lists agree and every seat on the floor is fit (`State.Orderly`), which each operation of the
floor and each step of the chain keeps; a seat that loses its rights is excused only until the same step has taken it off the floor. -/
theorem stepKeepsFloorFit : Obligations.StepKeepsFloorFit := by
  intro s t _ ha hf ht
  have h : s.Orderly [] [] := hf.orderly ha
  unfold step at ht
  split at ht
  · cases ht; exact hf
  · next c rest _ => exact (State.Orderly.exec (s := { s with pending := rest }) h.of_eq ht).floorFits

end Sys2Proof.Machine
end

section
/-! ## READ_SEATS and READ_FLOOR (R26, R169) -/

namespace Sys2Proof.Machine

/-- What a dispatched READ_SEATS does. -/
theorem exec_readSeats_due {s : State} {tag : Byte} {first count : Nat} {rest : List Entry}
    (h : s.Dispatching tag (.readSeats first count) rest) :
    exec .readSeats s = .next ((s.withBuffer rest).readSeats tag first count) :=
  congrArg Host.Outcome.next (State.dispatch_due h _)

/-- What a dispatched READ_FLOOR does. -/
theorem exec_readFloor_due {s : State} {tag : Byte} {rest : List Entry} (h : s.Dispatching tag .readFloor rest) :
    exec .readFloor s = .next ((s.withBuffer rest).reply tag (.floorRead (s.withBuffer rest).report)) :=
  congrArg Host.Outcome.next (State.dispatch_due h _)

theorem ChanRecord.bytes_length (r : ChanRecord) : r.bytes.length = 4 := rfl

theorem WaitEntry.bytes_length (e : WaitEntry) : (byteOf e.seat :: wordBytes e.sweep).length = 3 := rfl

/-- A list of records of `k` bytes each fills `k` bytes a record. -/
theorem length_flatMap_of_const {α β : Type} {f : α → List β} {k : Nat} (hf : ∀ x, (f x).length = k) (l : List α) :
    (l.flatMap f).length = k * l.length := by
  induction l with
  | nil => rfl
  | cons x l ih => simp only [List.flatMap_cons, List.length_append, hf, ih, List.length_cons]; ring

/-- R169: six bytes of the floor and the item, nine channel records of four, and three bytes a waiting entry. -/
theorem FloorReport.bytes_length (f : FloorReport) : f.bytes.length = 42 + 3 * f.waiting.length := by
  have hchan := length_flatMap_of_const ChanRecord.bytes_length f.channels.toList
  have hwait := length_flatMap_of_const WaitEntry.bytes_length f.waiting
  have h9 : f.channels.toList.length = 9 := rfl
  have hitem : (wordBytes f.item).length = 2 := rfl
  simp only [FloorReport.bytes, List.length_append, List.length_cons, List.length_nil, hchan, hwait, h9, hitem]

theorem State.report_item (s : State) : s.report.item = (match s.agenda with | [] => 0 | a :: _ => a.item) := by
  cases h : s.agenda <;> simp [State.report, State.active, h]

theorem State.report_channel (s : State) (c : Chan) : s.report.channels.get c = (s.chan c).record := by
  cases c <;> rfl

/-- Settles O40: both answer from the state with the directive taken off the buffer, whose seats and floor are those that stand. -/
theorem readsReportTheState : Obligations.ReadsReportTheState := by
  refine ⟨fun s tag first count rest h => ?_, fun s tag rest h => ?_⟩
  · rw [exec_readSeats_due h]
    simp only [State.readSeats, List.range'_eq_map_range, List.map_map]
    rfl
  · refine ⟨s.report, exec_readFloor_due h, rfl, s.report_item, rfl, rfl, rfl, fun c => ?_, s.report.bytes_length⟩
    rw [s.report_channel c]
    exact ⟨rfl, rfl, rfl⟩

end Sys2Proof.Machine
end

section
/-! ## Who changes the gains, the settings, the seat table and the flags (R18, R19, R137, R157, R168) -/

namespace Sys2Proof.Machine

/-- What only its owners change stands: the gains, the settings, the seat table and every flag that is set. -/
structure State.Leaves (s t : State) : Prop where
  gains : t.gains = s.gains
  settings : t.settings = s.settings
  config : ∀ n, (t.seat n).config = (s.seat n).config
  flagged : ∀ n, (s.seat n).flagged = true → (t.seat n).flagged = true

section
variable {s t u : State}

theorem State.Leaves.refl (s : State) : s.Leaves s := ⟨rfl, rfl, fun _ => rfl, fun _ => id⟩

theorem State.Leaves.trans (h1 : s.Leaves t) (h2 : t.Leaves u) : s.Leaves u :=
  ⟨h2.gains.trans h1.gains, h2.settings.trans h1.settings, fun n => (h2.config n).trans (h1.config n),
    fun n hf => h2.flagged n (h1.flagged n hf)⟩

/-- An update of anything but the gains, the settings and the seats. -/
theorem State.Leaves.of_eq (e1 : t.seats = s.seats := by rfl) (e2 : t.gains = s.gains := by rfl)
    (e3 : t.settings = s.settings := by rfl) : s.Leaves t := by
  have hseat : ∀ n, t.seat n = s.seat n := fun n => by cases n <;> simp [State.seat, e1]
  exact ⟨e2, e3, fun n => by rw [hseat], fun n hf => by rw [hseat]; exact hf⟩

/-- The floor's operations. -/
theorem State.Leaves.of_frozen (h : t.frozen = s.frozen) : s.Leaves t :=
  ⟨(congrArg (fun u : State => u.gains) h : _), (congrArg (fun u : State => u.settings) h : _), State.config_of_frozen h,
    fun n hf => by rw [State.flagged_of_frozen h]; exact hf⟩

theorem State.Moves.leaves (h : s.Moves t) : s.Leaves t := .of_frozen h.frozen

theorem State.leaves_foldl {α : Type} {f : State → α → State} (h : ∀ (s : State) (a : α), s.Leaves (f s a)) (l : List α) (s : State) :
    s.Leaves (l.foldl f s) := by
  induction l generalizing s with
  | nil => exact .refl s
  | cons a l ih => exact (h s a).trans (ih _)

/-- What of a seat stands: its entry, and its flag if it is set. -/
def Seat.Leaves (x y : Seat) : Prop := y.config = x.config ∧ (x.flagged = true → y.flagged = true)

theorem Seat.Leaves.refl (x : Seat) : x.Leaves x := ⟨rfl, id⟩

theorem State.Leaves.of_seats (h : ∀ n, (s.seat n).Leaves (t.seat n)) (e1 : t.gains = s.gains) (e2 : t.settings = s.settings) :
    s.Leaves t := ⟨e1, e2, fun n => (h n).1, fun n => (h n).2⟩

theorem State.leaves_updSeat (s : State) (n : Nat) {f : Seat → Seat} (hf : (s.seat n).Leaves (f (s.seat n))) :
    s.Leaves (s.updSeat n f) :=
  .of_seats (fun m => by obtain he | ⟨rfl, he⟩ := s.seat_updSeat_cases n m f <;> rw [he] <;> [exact .refl _; exact hf])
    (by simp) (by simp)

theorem State.Leaves.of_map {f : Seat → Seat} (e : t.seats = s.seats.map f) (hf : ∀ x : Seat, x.Leaves (f x))
    (e1 : t.gains = s.gains := by rfl) (e2 : t.settings = s.settings := by rfl) : s.Leaves t :=
  .of_seats (fun n => by obtain he | he := State.seat_map_cases e n <;> rw [he] <;> [exact .refl _; exact hf _]) e1 e2

/-! ### The chain: loss and return of sweeps -/

theorem State.leaves_takeLosses (s : State) : s.Leaves s.takeLosses := by
  have hlost : ∀ (l : List Nat) (u : State), u.Leaves (u.loseSeats l) := fun l u =>
    State.leaves_foldl (f := fun u n => (u.updSeat n Seat.lose).raise (.seatLost n))
      (fun u n => (u.leaves_updSeat n (f := Seat.lose) ⟨rfl, id⟩).trans (.of_frozen (State.frozen_raise _ _))) l u
  have hset : s.Leaves (s.setOwed { s.owed with losses := [] }) := .of_eq
  exact (hset.trans (hlost _ _)).trans (.of_frozen (State.frozen_takeOff _ _ _))

theorem State.leaves_breakTrunk (s : State) (k : Nat) : s.Leaves (s.breakTrunk k) := by
  have hdown : s.Leaves ({ s with trunk := .down }.raise (.trunkDown k)) :=
    State.Leaves.trans (t := { s with trunk := .down }) .of_eq (.of_frozen (by simp))
  have hlost : ∀ u : State, u.Leaves u.loseAllSeats := fun u => .of_map rfl fun _ => ⟨rfl, id⟩
  exact (hdown.trans (hlost _)).trans (.of_frozen (State.frozen_breakFloor _))

theorem State.leaves_declareLost (s : State) (k : Nat) : s.Leaves (s.declareLost k) := by
  have hcount : s.Leaves { s with lostRun := min (s.lostRun + 1) Config.lostRunLimit, discarded := [] } := .of_eq
  unfold State.declareLost
  simp only
  split <;> [exact hcount.trans (State.leaves_breakTrunk _ k); exact hcount]

theorem State.leaves_declareOwedLoss (s : State) : s.Leaves s.declareOwedLoss := by
  unfold State.declareOwedLoss
  split
  · exact .refl s
  · exact State.Leaves.trans .of_eq (State.leaves_declareLost _ _)

theorem State.leaves_lostSweepStep (s : State) : s.Leaves s.lostSweepStep := by
  unfold State.lostSweepStep State.declareAwaitedLoss
  split
  · exact s.leaves_declareOwedLoss
  · split
    · exact .refl s
    · split
      · exact State.Leaves.trans .of_eq (State.leaves_declareLost _ _)
      · exact .refl s

/-! ### Key actions -/

theorem State.leaves_spend (s : State) (k : KeySlot) : s.Leaves (s.spend k) := by
  unfold State.spend
  split <;> [exact s.leaves_updSeat _ ⟨rfl, id⟩; exact .refl s]

theorem State.leaves_keepSlots (s : State) (k : Nat) (rest : List KeySlot) : s.Leaves (s.keepSlots k rest) := .of_eq

theorem State.leaves_closePresentation (s : State) : s.Leaves s.closePresentation := by
  unfold State.closePresentation
  split <;> [exact .of_eq; exact .refl s]

theorem State.leaves_present (s : State) (n : Nat) (a : KeyAct) {answer : State → Nat → State}
    (ha : ∀ (u : State) (k : Nat), u.Leaves (answer u k)) : s.Leaves (s.present n a answer) := by
  obtain he | ⟨p, before, k, rest, -, -, -, -, -, he⟩ := s.present_cases n a answer
  · rw [he]; exact .refl s
  have hkeep := (State.leaves_foldl State.leaves_spend before s).trans (State.leaves_keepSlots _ p.sweep rest)
  rw [he, State.takeSlot]
  split
  · exact (hkeep.trans (State.leaves_spend _ k)).trans (State.leaves_closePresentation _)
  · exact (hkeep.trans (ha _ _)).trans (State.leaves_closePresentation _)

theorem State.leaves_presentSlots (k : Nat) (l : List KeySlot) (s : State) : s.Leaves (State.presentSlots k l s) := by
  induction l generalizing s with
  | nil => exact .refl s
  | cons x l ih =>
    have hkeep := s.leaves_keepSlots k l
    unfold State.presentSlots
    split
    · exact (hkeep.trans (State.leaves_spend _ x)).trans (ih _)
    · exact (hkeep.trans (.of_frozen (State.frozen_answer _ _ _ _))).trans (ih _)

theorem State.leaves_presentAll (s : State) : s.Leaves s.presentAll := by
  unfold State.presentAll
  split
  · exact .refl s
  · exact State.Leaves.trans (State.leaves_presentSlots _ _ s) .of_eq

/-! ### The audit -/

theorem State.leaves_compareEntry (s : State) (e : AuditEntry) : s.Leaves (s.compareEntry e) := by
  unfold State.compareEntry
  split
  · refine s.leaves_updSeat _ ?_
    unfold Seat.compare
    split <;> exact ⟨rfl, id⟩
  · exact .refl s

/-- R157: a report sets the flag of the seat. -/
theorem State.leaves_reportOne (s : State) : s.Leaves s.reportOne := by
  unfold State.reportOne
  split
  · exact .refl s
  · next n _ =>
    split
    · exact .refl s
    · next sense _ =>
      have hraised : s.Leaves (s.raise (.discrepancy n sense)) := .of_frozen (by simp)
      have hflag := hraised.trans (State.leaves_updSeat _ n (f := Seat.reported) ⟨rfl, fun _ => rfl⟩)
      have hcursor := hflag.trans (u := { (s.raise (.discrepancy n sense)).updSeat n Seat.reported with cursor := n }) .of_eq
      exact hcursor.trans (State.moves_removeReported _ n).leaves

theorem State.leaves_takeAudit (s : State) : s.Leaves s.takeAudit := by
  unfold State.takeAudit
  split
  · exact .refl s
  · have hset : s.Leaves (s.setOwed { s.owed with audit := none }) := .of_eq
    exact (hset.trans (State.leaves_foldl State.leaves_compareEntry _ _)).trans (State.leaves_reportOne _)

theorem State.leaves_settleSweep (s : State) : s.Leaves s.settleSweep :=
  ((s.leaves_declareOwedLoss.trans (State.leaves_presentAll _)).trans (State.leaves_takeLosses _)).trans (State.leaves_takeAudit _)

/-! ### The return of a sweep -/

theorem getElem?_pairUp (l : List Seat) (ups : List UpHalf) (i : Nat) :
    (pairUp l ups)[i]? = l[i]?.map fun x => (x, ups.getD i UpHalf.unanswered) := by
  by_cases hi : i < l.length
  · rw [List.getElem?_eq_getElem (by rwa [length_pairUp]), getElem_pairUp]
    simp [List.getElem?_eq_getElem hi, List.getD_eq_getElem?_getD]
  · rw [List.getElem?_eq_none (by rw [length_pairUp]; omega), List.getElem?_eq_none (by omega)]
    rfl

theorem Seat.leaves_swept (x : Seat) (m : Settings) (v : UpHalf) : x.Leaves (x.swept m v) := by
  unfold Seat.swept
  split
  · exact ⟨rfl, id⟩
  · split <;> exact ⟨rfl, id⟩

theorem State.leaves_trunkReturned (s : State) (k : Nat) : s.Leaves (s.trunkReturned k) := by
  unfold State.trunkReturned
  split
  · exact .of_eq
  · exact State.Leaves.trans (t := { s with lostRun := 0, trunk := .up }) .of_eq (.of_frozen (by simp))

theorem State.leaves_handEntries (s : State) (k : Nat) (ups : List UpHalf) : s.Leaves (s.handEntries k ups) := by
  have hfound := (s.moves_raiseFound (numbersOf (fun x => x.2.answered && !x.1.present) 1 (pairUp s.seats ups))).leaves
  refine .of_seats (fun n => ?_) hfound.gains hfound.settings
  cases n with
  | zero => exact .refl _
  | succ i =>
    simp only [State.seat, State.handEntries, List.getD_eq_getElem?_getD, List.getElem?_map, getElem?_pairUp]
    cases s.seats[i]? with
    | none => exact .refl _
    | some x => exact x.leaves_swept _ _

theorem State.leaves_takeReturn (s : State) : s.Leaves s.takeReturn := by
  unfold State.takeReturn
  split
  · exact .refl s
  · next r _ =>
    have hset : s.Leaves (s.setOwed { s.owed with returned := none }) := .of_eq
    exact (((hset.trans (State.leaves_settleSweep _)).trans (State.leaves_trunkReturned _ r.sweep)).trans
      (State.leaves_handEntries _ r.sweep r.ups)).trans (State.leaves_closePresentation _)

/-! ### The interval start and what goes before a frame period -/

theorem State.leaves_takeBlink (s : State) : s.Leaves s.takeBlink := by
  unfold State.takeBlink
  split <;> [exact .of_eq; exact .refl s]

theorem State.leaves_settleInterval (s : State) : s.Leaves s.settleInterval :=
  (((s.leaves_takeBlink.trans (.of_frozen (State.frozen_takeLockouts _))).trans (State.moves_takeTimers _).leaves).trans
    (State.leaves_declareOwedLoss _)).trans (State.leaves_takeReturn _)

theorem State.leaves_emitSweep (s : State) : s.Leaves s.emitSweep := by
  rw [State.emitSweep_eq]
  exact .of_map rfl fun _ => ⟨rfl, id⟩

theorem State.leaves_startInterval (s : State) (o : IntervalOrder) : s.Leaves (s.startInterval o) := by
  have hcount : ∀ u : State, u.Leaves u.countInterval := fun u => .of_frozen u.frozen_countInterval
  unfold State.startInterval
  split
  · cases o with
    | emissionFirst => exact (s.leaves_settleInterval.trans (State.leaves_emitSweep _)).trans (hcount _)
    | countsFirst =>
      exact (((s.leaves_settleInterval.trans (hcount _)).trans (.of_frozen (State.frozen_takeLockouts _))).trans
        (State.moves_takeTimers _).leaves).trans (State.leaves_emitSweep _)
  · exact .refl s

theorem State.leaves_takeLock (s : State) : s.Leaves s.takeLock := by
  unfold State.takeLock
  split <;> [exact .of_eq; exact .refl s]

theorem State.leaves_takeUnlock (s : State) : s.Leaves s.takeUnlock := by
  rw [State.sansUnlock_eq s.sansUnlock_takeUnlock]; exact .of_eq

theorem State.leaves_takeFreed (s : State) (c : Chan) : s.Leaves (s.takeFreed c) := by
  unfold State.takeFreed
  split
  · have hfree : s.Leaves (s.freeChan c) := .of_eq
    exact hfree.trans (State.moves_fill _).leaves
  · exact .refl s

theorem State.leaves_beforeFrame (s : State) : s.Leaves s.beforeFrame := by
  have hfreed : ∀ u : State, u.Leaves u.takeAllFreed := fun u =>
    State.Leaves.trans (State.leaves_foldl State.leaves_takeFreed _ u) .of_eq
  have hstart := ((s.leaves_takeLock.trans (State.leaves_takeUnlock _)).trans (hfreed _)).trans
    (State.leaves_startInterval _ .emissionFirst)
  unfold State.beforeFrame State.settleFirst
  split <;> [exact hstart.trans (State.leaves_settleSweep _); exact hstart]

theorem State.Leaves.of_input (e : t.sansInput = s.sansInput) : s.Leaves t := by
  rw [State.sansInput_eq e]; exact .of_eq

theorem State.Leaves.of_output (e : t.sansOutput = s.sansOutput) : s.Leaves t := by
  rw [State.sansOutput_eq e]; exact .of_eq

/-! ### The directives -/

theorem State.Leaves.reply (h : s.Leaves t) (tag : Byte) (b : ReplyBody) : s.Leaves (t.reply tag b) := h.trans .of_eq

theorem State.leaves_stageItem (s : State) (tag : Byte) (c : Context) : s.Leaves (s.stageItem tag c) := by
  unfold State.stageItem
  split
  · have hopen : s.Leaves ((s.withAgenda [c]).withFloor .opened) := .of_eq
    exact (hopen.trans ((State.Moves.notice _ _).trans (State.moves_fill _)).leaves).reply tag _
  · exact .of_eq
  · exact .of_eq

theorem State.leaves_closeFloor (s : State) (item : Nat) (r : Reason) : s.Leaves (s.closeFloor item r) :=
  State.Leaves.trans (t := s.withAgenda []) .of_eq
    (((((State.Moves.floor _ .closed).trans (State.moves_releaseHolder _ r)).trans (State.moves_releaseSpeakers _ r)).trans
      (State.moves_clearWaiting _ r)).trans (.notice _ _)).leaves

theorem State.leaves_advanceItem (s : State) (tag : Byte) : s.Leaves (s.advanceItem tag) := by
  unfold State.advanceItem
  split
  · exact .of_eq
  · next a rest _ =>
    split
    · exact .of_eq
    · cases rest with
      | cons n later =>
        have hset : s.Leaves (s.withAgenda (n :: later)) := .of_eq
        exact (hset.trans (.of_frozen (State.frozen_changeover _ _))).reply tag _
      | nil =>
        simp only
        split
        · exact .of_eq
        · exact (s.leaves_closeFloor _ _).reply tag _

theorem State.leaves_flushAgenda (s : State) (tag : Byte) : s.Leaves (s.flushAgenda tag) := by
  unfold State.flushAgenda
  split
  · exact .of_eq
  · next a rest _ =>
    split
    · have hset : s.Leaves (s.withAgenda [a]) := .of_eq
      exact (hset.trans (((State.moves_clearFloor _ _).trans (State.moves_endHolder _ _)).trans (State.moves_fill _)).leaves).reply
        tag _
    · exact (s.leaves_closeFloor _ _).reply tag _

theorem State.leaves_operatorGrant (s : State) (tag : Byte) (n : Nat) : s.Leaves (s.operatorGrant tag n) := by
  have hgrant : ∀ c l, s.Leaves ((s.leaveSilently n).grant c n l) := fun c l =>
    ((s.moves_filterWaiting _).trans (State.moves_grant _ c n l)).leaves
  unfold State.operatorGrant
  split
  · exact .of_eq
  split
  · exact .of_eq
  split
  · exact .of_eq
  split
  · split
    · exact .of_eq
    · unfold State.grantByOperator
      split <;> [exact .of_eq; exact (hgrant _ _).reply tag _]
  · exact .of_eq

theorem State.leaves_operatorRevoke (s : State) (tag : Byte) (n : Nat) : s.Leaves (s.operatorRevoke tag n) := by
  unfold State.operatorRevoke
  split
  · exact (s.moves_endSeat n _).leaves.reply tag _
  · exact (s.moves_removeWaiting n _).leaves.reply tag _
  · exact .of_eq

theorem State.leaves_operatorEnqueue (s : State) (tag : Byte) (n i : Nat) : s.Leaves (s.operatorEnqueue tag n i) := by
  unfold State.operatorEnqueue
  split
  · exact .of_eq
  split
  swap
  · exact .of_eq
  split
  · exact .of_eq
  split
  · exact .of_eq
  split
  · exact (State.Leaves.of_frozen (by simp)).reply tag _
  · exact .of_eq

theorem State.leaves_operatorRemove (s : State) (tag : Byte) (n : Nat) : s.Leaves (s.operatorRemove tag n) := by
  unfold State.operatorRemove
  split
  · exact (s.moves_removeWaiting n _).leaves.reply tag _
  · exact .of_eq
  · exact .of_eq

theorem State.leaves_operatorNext (s : State) (tag : Byte) : s.Leaves (s.operatorNext tag) := by
  unfold State.operatorNext
  split <;> [exact .of_eq; exact .of_eq; exact s.moves_takeNext.leaves.reply tag _]

theorem State.leaves_operatorCancel (s : State) (tag : Byte) : s.Leaves (s.operatorCancel tag) := by
  unfold State.operatorCancel
  split <;> [exact .of_eq; exact s.moves_cancelFloor.leaves.reply tag _]

theorem State.leaves_operatorExtend (s : State) (tag : Byte) (n k : Nat) : s.Leaves (s.operatorExtend tag n k) := by
  unfold State.operatorExtend
  split
  · exact .of_eq
  · exact .of_eq
  · split <;> exact .of_eq

/-! ### The owners -/

/-- R137: a frame period moves gains, and leaves the rest. -/
theorem State.leaves_framePeriod (s : State) (r b : Option (List Byte)) :
    ({ s with gains := (s.framePeriod r b).gains } : State).Leaves (s.framePeriod r b) := by
  have h := State.sansFrame_eq (s.sansFrame_framePeriod r b)
  generalize s.framePeriod r b = t at h ⊢
  exact .of_eq (congrArg State.seats h : _) rfl (congrArg State.settings h : _)

/-- R168: SET_GENERAL changes the settings, and leaves the rest. -/
theorem State.leaves_setGeneral (s : State) (tag : Byte) (r : GeneralRecord) :
    ({ s with settings := r.settings } : State).Leaves (s.setGeneral tag r) := by
  have hset : ({ s with settings := r.settings } : State).Leaves
      { s with settings := r.settings, rotation := r.rotation.getD s.rotation } := .of_eq
  exact (hset.trans (State.moves_fill _).leaves).reply tag _

theorem State.flagged_writeConfigs (s : State) (first : Nat) (l : List SeatConfig) (n : Nat) :
    ((s.writeConfigs first l).seat n).flagged = (s.seat n).flagged := by
  by_cases hn : 1 ≤ n ∧ n ≤ s.seats.length
  · rw [s.seat_writeConfigs first l hn.1 hn.2, Seat.withConfig_eq]
  · have hlen := s.writeConfigs_length first l
    rw [State.seat_out _ (by omega), State.seat_out s (by omega)]

/-- R19: a load changes the seat table, and leaves the rest. -/
theorem State.leaves_loadSeats (s : State) (tag : Byte) (first : Nat) (l : List SeatConfig) :
    (s.writeConfigs first l).Leaves (s.loadSeats tag first l) :=
  (State.Leaves.of_frozen (State.frozen_takeOff _ _ _)).reply tag _

/-- R157: CLEAR_FLAG clears flags, and leaves the rest. -/
theorem State.clearFlag_keeps (s : State) (tag : Byte) (k : Nat) :
    (s.clearFlag tag k).gains = s.gains ∧ (s.clearFlag tag k).settings = s.settings ∧
      ∀ n, ((s.clearFlag tag k).seat n).config = (s.seat n).config := by
  unfold State.clearFlag
  split
  · refine ⟨rfl, rfl, fun n => ?_⟩
    obtain he | he := State.seat_map_cases (s := s)
      (t := { s with seats := s.seats.map Seat.cleared }.reply tag (.flagsCleared s.flaggedCount)) rfl n <;> rw [he]
    rfl
  split
  · refine ⟨by simp, by simp, fun n => ?_⟩
    rw [State.seat_reply]
    obtain he | ⟨rfl, he⟩ := s.seat_updSeat_cases k n Seat.cleared <;> rw [he]
    rfl
  · exact ⟨rfl, rfl, fun _ => rfl⟩

/-! ### Dispatch -/

/-- The oldest entry gone from the input buffer. -/
theorem State.leaves_oldest {e : Entry} (ho : s.oldest = some (e, u)) : s.Leaves u := by
  unfold State.oldest at ho
  split at ho
  · cases ho
  · split at ho <;> cases ho
    exact .of_eq

/-- A dispatch answers or does nothing, or its directive's owner acts. -/
theorem State.dispatch_leaves_or (s : State) (k : Nat) (owner : State → Byte → Directive → State) :
    s.Leaves (s.dispatch k owner) ∨ ∃ u tag d, s.Leaves u ∧ s.dispatch k owner = owner u tag d := by
  unfold State.dispatch
  split
  · exact .inl (.refl s)
  · next hu =>
    split
    · split
      · exact .inl ((State.leaves_oldest hu).reply _ _)
      · exact .inr ⟨_, _, _, State.leaves_oldest hu, rfl⟩
    · exact .inl (.refl s)

theorem State.leaves_dispatch (s : State) (k : Nat) {owner : State → Byte → Directive → State}
    (ho : ∀ (u : State) (tag : Byte) (d : Directive), u.Leaves (owner u tag d)) : s.Leaves (s.dispatch k owner) := by
  obtain h | ⟨u, tag, d, h, he⟩ := s.dispatch_leaves_or k owner
  · exact h
  · rw [he]; exact h.trans (ho _ _ _)

theorem State.leaves_dispatchSkip (s : State) : s.Leaves s.dispatchSkip := by
  unfold State.dispatchSkip
  split
  · exact .refl s
  · next ho => split <;> [exact (State.leaves_oldest ho).reply _ _; exact .refl s]

theorem State.leaves_dispatchUnknown (s : State) : s.Leaves s.dispatchUnknown := by
  unfold State.dispatchUnknown
  split
  · exact .refl s
  · next ho => split <;> [exact (State.leaves_oldest ho).reply _ _; exact .refl s]

/-- The commands that own part of the gains, the settings, the seat table and the flags, and the resets. -/
def ownsTable : Instr → Bool
  | .pinReset | .restart | .framePeriod .. | .setGeneral | .loadSeats | .clearFlag => true
  | _ => false

/-- Every other command leaves what they own. -/
theorem State.leaves_exec {c : Instr} (hc : ownsTable c = false) (ht : exec c s = .next t) : s.Leaves t := by
  cases c with
  | pinReset | restart | framePeriod | setGeneral | loadSeats | clearFlag => cases hc
  | headLinkLock => cases ht; exact s.leaves_takeLock
  | headLinkUnlock => cases ht; exact s.leaves_takeUnlock
  | sweepIntervalStart o => cases ht; exact s.leaves_startInterval o
  | blinkPhaseToggle => cases ht; exact s.leaves_takeBlink
  | lockoutExpiry n => cases ht; exact .of_frozen (s.frozen_takeLockout n)
  | expired c => cases ht; split <;> [exact (s.moves_tick c).leaves; exact .refl s]
  | timeOver c => cases ht; split <;> [exact (s.moves_tick c).leaves; exact .refl s]
  | lostSweep => cases ht; exact s.leaves_lostSweepStep
  | trunkDown => cases ht; split <;> [exact s.leaves_lostSweepStep; exact .refl s]
  | sweepReturned => cases ht; exact s.leaves_takeReturn
  | seatLost => cases ht; exact s.leaves_takeLosses
  | request n => cases ht; exact s.leaves_present n .request fun u k => .of_frozen (u.frozen_judgeRequest n k)
  | withdraw n => cases ht; exact s.leaves_present n .withdraw fun u _ => (u.moves_judgeWithdraw n).leaves
  | nextAction n => cases ht; exact s.leaves_present n .next fun u _ => u.moves_judgeNext.leaves
  | cancelAction n => cases ht; exact s.leaves_present n .cancel fun u _ => u.moves_judgeCancel.leaves
  | priorityHeld n => cases ht; exact s.leaves_present n .priorityHeld fun u _ => (u.moves_judgePriorityHeld n).leaves
  | priorityReleased n => cases ht; exact s.leaves_present n .priorityReleased fun u _ => (u.moves_judgePriorityReleased n).leaves
  | auditSweep => cases ht; exact s.leaves_takeAudit
  | channelFreed c => cases ht; exact s.leaves_takeFreed c
  | messageHeader => cases ht; exact .of_input s.sansInput_takeHeader
  | directiveComplete => cases ht; exact .of_eq
  | skipEntryDispatch => cases ht; exact s.leaves_dispatchSkip
  | unknownKind => cases ht; exact s.leaves_dispatchUnknown
  | readSeats => cases ht; exact s.leaves_dispatch 2 fun u tag d => by split <;> [exact .of_eq; exact .refl u]
  | stageItem => cases ht; exact s.leaves_dispatch 4 fun u tag d => by split <;> [exact u.leaves_stageItem tag _; exact .refl u]
  | advanceItem => cases ht; exact s.leaves_dispatch 5 fun u tag d => by split <;> [exact u.leaves_advanceItem tag; exact .refl u]
  | flushAgenda => cases ht; exact s.leaves_dispatch 6 fun u tag d => by split <;> [exact u.leaves_flushAgenda tag; exact .refl u]
  | grant => cases ht; exact s.leaves_dispatch 7 fun u tag d => by split <;> [exact u.leaves_operatorGrant tag _; exact .refl u]
  | revoke => cases ht; exact s.leaves_dispatch 8 fun u tag d => by split <;> [exact u.leaves_operatorRevoke tag _; exact .refl u]
  | enqueue => cases ht; exact s.leaves_dispatch 9 fun u tag d => by split <;> [exact u.leaves_operatorEnqueue tag _ _; exact .refl u]
  | remove => cases ht; exact s.leaves_dispatch 10 fun u tag d => by split <;> [exact u.leaves_operatorRemove tag _; exact .refl u]
  | next => cases ht; exact s.leaves_dispatch 11 fun u tag d => by split <;> [exact u.leaves_operatorNext tag; exact .refl u]
  | cancelAll => cases ht; exact s.leaves_dispatch 12 fun u tag d => by split <;> [exact u.leaves_operatorCancel tag; exact .refl u]
  | extend => cases ht; exact s.leaves_dispatch 13 fun u tag d => by split <;> [exact u.leaves_operatorExtend tag _ _; exact .refl u]
  | readFloor => cases ht; exact s.leaves_dispatch 15 fun u tag d => by split <;> [exact .of_eq; exact .refl u]
  | messageStart => cases ht; exact .of_output s.sansOutput_startMessage
  | messageSent => cases ht; exact .of_output s.sansOutput_finishMessage

/-- R137: a frame period leaves all but the gains. -/
theorem State.exec_framePeriod_keeps {r b : Option (List Byte)} (ht : exec (.framePeriod r b) s = .next t) :
    t.settings = s.settings ∧ (∀ n, (t.seat n).config = (s.seat n).config) ∧
      ∀ n, (s.seat n).flagged = true → (t.seat n).flagged = true := by
  cases ht
  have hbefore := s.leaves_beforeFrame
  have hframe := s.beforeFrame.leaves_framePeriod r b
  exact ⟨hframe.settings.trans hbefore.settings, fun n => (hframe.config n).trans (hbefore.config n),
    fun n hf => hframe.flagged n (hbefore.flagged n hf)⟩

/-- R168: SET_GENERAL leaves all but the settings. -/
theorem State.exec_setGeneral_keeps (ht : exec .setGeneral s = .next t) :
    t.gains = s.gains ∧ (∀ n, (t.seat n).config = (s.seat n).config) ∧
      ∀ n, (s.seat n).flagged = true → (t.seat n).flagged = true := by
  cases ht
  obtain h | ⟨u, tag, d, h, he⟩ := s.dispatch_leaves_or 3 _
  · exact ⟨h.gains, h.config, h.flagged⟩
  rw [he]
  split
  · next r =>
    have hset := u.leaves_setGeneral tag r
    exact ⟨hset.gains.trans h.gains, fun n => (hset.config n).trans (h.config n), fun n hf => hset.flagged n (h.flagged n hf)⟩
  · exact ⟨h.gains, h.config, h.flagged⟩

/-- R19: LOAD_SEATS leaves all but the seat table. -/
theorem State.exec_loadSeats_keeps (ht : exec .loadSeats s = .next t) :
    t.gains = s.gains ∧ t.settings = s.settings ∧ ∀ n, (s.seat n).flagged = true → (t.seat n).flagged = true := by
  cases ht
  obtain h | ⟨u, tag, d, h, he⟩ := s.dispatch_leaves_or 1 _
  · exact ⟨h.gains, h.settings, h.flagged⟩
  rw [he]
  split
  · next first l =>
    have hload := u.leaves_loadSeats tag first l
    have heq := u.writeConfigs_eq first l
    have hgains : (u.writeConfigs first l).gains = u.gains := by rw [heq]
    have hsettings : (u.writeConfigs first l).settings = u.settings := by rw [heq]
    refine ⟨hload.gains.trans (hgains.trans h.gains), hload.settings.trans (hsettings.trans h.settings), fun n hf => ?_⟩
    exact hload.flagged n ((u.flagged_writeConfigs first l n).trans (h.flagged n hf))
  · exact ⟨h.gains, h.settings, h.flagged⟩

/-- R157: CLEAR_FLAG leaves all but the flags. -/
theorem State.exec_clearFlag_keeps (ht : exec .clearFlag s = .next t) :
    t.gains = s.gains ∧ t.settings = s.settings ∧ ∀ n, (t.seat n).config = (s.seat n).config := by
  cases ht
  obtain h | ⟨u, tag, d, h, he⟩ := s.dispatch_leaves_or 14 _
  · exact ⟨h.gains, h.settings, h.config⟩
  rw [he]
  split
  · next k =>
    obtain ⟨h1, h2, h3⟩ := u.clearFlag_keeps tag k
    exact ⟨h1.trans h.gains, h2.trans h.settings, fun n => (h3 n).trans (h.config n)⟩
  · exact ⟨h.gains, h.settings, h.config⟩

end

/-- Settles O60: every operation of the floor and every step of the chain leaves what the owners own (`State.Leaves`), and each owner
leaves all but its own part. -/
theorem onlyOwnersChangeTheirState : Obligations.OnlyOwnersChangeTheirState := by
  intro c s t ht hreset hrestart
  by_cases hc : ownsTable c = false
  · obtain ⟨h1, h2, h3, h4⟩ := State.leaves_exec hc ht
    exact ⟨fun _ => h1, fun _ => h2, fun _ => h3, fun _ => h4⟩
  cases c with
  | pinReset => exact absurd rfl hreset
  | restart => exact absurd rfl hrestart
  | framePeriod r b =>
    obtain ⟨h2, h3, h4⟩ := State.exec_framePeriod_keeps ht
    exact ⟨fun hne => absurd rfl (hne r b), fun _ => h2, fun _ => h3, fun _ => h4⟩
  | setGeneral =>
    obtain ⟨h1, h3, h4⟩ := State.exec_setGeneral_keeps ht
    exact ⟨fun _ => h1, fun hne => absurd rfl hne, fun _ => h3, fun _ => h4⟩
  | loadSeats =>
    obtain ⟨h1, h2, h4⟩ := State.exec_loadSeats_keeps ht
    exact ⟨fun _ => h1, fun _ => h2, fun hne => absurd rfl hne, fun _ => h4⟩
  | clearFlag =>
    obtain ⟨h1, h2, h3⟩ := State.exec_clearFlag_keeps ht
    exact ⟨fun _ => h1, fun _ => h2, fun _ => h3, fun hne => absurd rfl hne⟩
  | _ => exact absurd rfl hc

end Sys2Proof.Machine
end

section
/-! ## The field checks and clamps of the directives (R20, R26, R53, R54, R79, R95, R119, R159, R161, R162, R168) -/

namespace Sys2Proof.Machine

/-! ### Field values -/

theorem byte_toNat_eq_one (b : Byte) : b.toNat = 1 ↔ b = 1 := by
  rw [← BitVec.toNat_inj]; rfl

theorem byte_toNat_eq_zero (b : Byte) : b.toNat = 0 ↔ b = 0 := by
  rw [← BitVec.toNat_inj]; rfl

theorem byte_toNat_beq_one (b : Byte) : (b.toNat == 1) = (b == 1) := by
  rw [Bool.eq_iff_iff, beq_iff_eq, beq_iff_eq, byte_toNat_eq_one]

theorem readYesNo_eq_some {n : Nat} {v : Bool} : readYesNo n = some v ↔ n ≤ 1 ∧ v = (n == 1) := by
  obtain _ | _ | n := n <;> simp [readYesNo, eq_comm]

theorem readAgendaEmpty_eq_some {n : Nat} {v : AgendaEmpty} :
    readAgendaEmpty n = some v ↔ n ≤ 1 ∧ v = if n = 1 then .close else .keep := by
  obtain _ | _ | n := n <;> simp [readAgendaEmpty, eq_comm]

theorem readExpiry_eq_some {n : Nat} {v : Expiry} : readExpiry n = some v ↔ n ≤ 1 ∧ v = if n = 1 then .warnOnly else .revoke := by
  obtain _ | _ | n := n <;> simp [readExpiry, eq_comm]

theorem readPriorityEnd_eq_some {n : Nat} {v : PriorityEnd} :
    readPriorityEnd n = some v ↔ n ≤ 1 ∧ v = if n = 1 then .clear else .resume := by
  obtain _ | _ | n := n <;> simp [readPriorityEnd, eq_comm]

theorem readClass_eq (n : Nat) : readClass n = [SeatClass.delegate, .chair, .guest, .observer][n]? := by
  obtain _ | _ | _ | _ | n := n <;> rfl

theorem readKeyAction_eq (n : Nat) : readKeyAction n = [KeyAction.push, .hold][n]? := by
  obtain _ | _ | n := n <;> rfl

theorem readMode_eq (n : Nat) : readMode n = [Mode.direct, .queued, .moderated, .override][n]? := by
  obtain _ | _ | _ | _ | n := n <;> rfl

theorem readClassSet_eq_some {n : Nat} {v : ClassSet} : readClassSet n = some v ↔
    n < 16 ∧ v = { delegate := n.testBit 0, chair := n.testBit 1, guest := n.testBit 2, observer := n.testBit 3 } := by
  unfold readClassSet; split <;> simp_all [eq_comm]

theorem readPositive_eq_some {hi n v : Nat} : readPositive hi n = some v ↔ n ≠ 0 ∧ v = min n hi := by
  unfold readPositive; split <;> simp_all [eq_comm]

theorem readOneOf_eq_some {l : List Nat} {n v : Nat} : readOneOf l n = some v ↔ n ∈ l ∧ v = n := by
  unfold readOneOf; split <;> simp_all [eq_comm]

theorem readSeat_of_range {n : Nat} (h : 1 ≤ n ∧ n ≤ 200) : readSeat n = some n := if_pos h

theorem readSeat_of_out {n : Nat} (h : n = 0 ∨ 200 < n) : readSeat n = none :=
  if_neg (by simp only [Config.seatCount]; omega)

theorem readRun_eq_some {first count : Nat} {r : Nat × Nat} : readRun first count = some r ↔
    (1 ≤ count ∧ count ≤ 48 ∧ 1 ≤ first ∧ first + count ≤ 201) ∧ r = (first, count) := by
  unfold readRun; split <;> simp_all [Config.seatCount, eq_comm]

/-! ### Decoding a body of the right length -/

/-- R162: the kind is of the table and the length is the one it requires. -/
def Measured (kind len : Byte) (body : List Byte) : Prop :=
  knownKind kind.toNat = true ∧ len.toNat ≤ 250 ∧ requiredLength kind.toNat body = some len.toNat

theorem decodeMessage_accepted {kind len : Byte} {body : List Byte} {d : Directive} (h : Measured kind len body)
    (hd : readFields kind.toNat body = some d) : decodeMessage kind len body = .accepted d := by
  obtain ⟨hk, hl, hr⟩ := h
  have hlen : ¬(Config.bodyMax < len.toNat ∨ requiredLength kind.toNat body ≠ some len.toNat) := by
    simp [Config.bodyMax, hl, hr]
  simp only [decodeMessage, hk, if_true, if_neg hlen, hd]

theorem decodeMessage_refused {kind len : Byte} {body : List Byte} (h : Measured kind len body)
    (hd : readFields kind.toNat body = none) : decodeMessage kind len body = .refused .badValue := by
  obtain ⟨hk, hl, hr⟩ := h
  have hlen : ¬(Config.bodyMax < len.toNat ∨ requiredLength kind.toNat body ≠ some len.toNat) := by
    simp [Config.bodyMax, hl, hr]
  simp only [decodeMessage, hk, if_true, if_neg hlen, hd]

/-! ### LOAD_SEATS (R20) -/

/-- R20: the five bytes of an entry are read as the entry `x`. -/
def SeatEntryBytes.Reads (e : SeatEntryBytes) (x : SeatConfig) : Prop :=
  e.enabled.toNat ≤ 1 ∧ x.enabled = (e.enabled == 1) ∧
    [SeatClass.delegate, .chair, .guest, .observer][e.cls.toNat]? = some x.cls ∧
    [KeyAction.push, .hold][e.keyAction.toNat]? = some x.keyAction ∧ x.level = min (e.level1.toNat * 256 + e.level2.toNat) 32768

/-- An entry is read where its three choices are within their values. -/
theorem SeatEntryBytes.exists_reads {e : SeatEntryBytes} :
    (∃ x, e.Reads x) ↔ e.enabled.toNat ≤ 1 ∧ e.cls.toNat ≤ 3 ∧ e.keyAction.toNat ≤ 1 := by
  constructor
  · rintro ⟨x, h1, -, h2, h3, -⟩
    have h2 := (List.getElem?_eq_some_iff.1 h2).1
    have h3 := (List.getElem?_eq_some_iff.1 h3).1
    simp only [List.length_cons, List.length_nil] at h2 h3
    omega
  · rintro ⟨h1, h2, h3⟩
    exact ⟨{ enabled := e.enabled == 1, cls := _, keyAction := _, level := _ }, h1, rfl,
      List.getElem?_eq_getElem (by simp only [List.length_cons, List.length_nil]; omega),
      List.getElem?_eq_getElem (by simp only [List.length_cons, List.length_nil]; omega), rfl⟩

theorem readSeatConfigs_cons (e : SeatEntryBytes) (b : List Byte) (l : List SeatConfig) :
    readSeatConfigs (e.bytes ++ b) = some l ↔ ∃ x others, e.Reads x ∧ readSeatConfigs b = some others ∧ l = x :: others := by
  simp only [SeatEntryBytes.bytes, List.cons_append, List.nil_append, readSeatConfigs, Option.bind_eq_bind, Option.bind_eq_some_iff,
    readYesNo_eq_some, readClass_eq, readKeyAction_eq, byte_toNat_beq_one]
  constructor
  · rintro ⟨en, ⟨h1, rfl⟩, cls, h2, key, h3, others, h4, h5⟩
    exact ⟨_, others, ⟨h1, rfl, h2, h3, rfl⟩, h4, (Option.some.inj h5).symm⟩
  · rintro ⟨x, others, ⟨h1, h2, h3, h4, h5⟩, h6, rfl⟩
    refine ⟨x.enabled, ⟨h1, h2⟩, x.cls, h3, x.keyAction, h4, others, h6, ?_⟩
    cases x
    cases h5
    rfl

/-- R20: the entries of a body, each read from its own bytes. -/
theorem readSeatConfigs_flatMap {l : List SeatEntryBytes} {entries : List SeatConfig} :
    readSeatConfigs (l.flatMap SeatEntryBytes.bytes) = some entries ↔ List.Forall₂ SeatEntryBytes.Reads l entries := by
  induction l generalizing entries with
  | nil => simp [readSeatConfigs, eq_comm]
  | cons e l ih =>
    rw [List.flatMap_cons, readSeatConfigs_cons, List.forall₂_cons_left_iff]
    constructor
    · rintro ⟨x, others, hx, ho, rfl⟩; exact ⟨x, others, hx, ih.1 ho, rfl⟩
    · rintro ⟨x, others, hx, ho, rfl⟩; exact ⟨x, others, hx, ih.2 ho, rfl⟩

theorem forall₂_exists {α β : Type} {R : α → β → Prop} {l : List α} : (∃ m, List.Forall₂ R l m) ↔ ∀ a ∈ l, ∃ b, R a b := by
  induction l with
  | nil => simp
  | cons a l ih =>
    rw [List.forall_mem_cons, ← ih]
    constructor
    · rintro ⟨m, hm⟩
      obtain ⟨b, m', hb, hm', -⟩ := List.forall₂_cons_left_iff.1 hm
      exact ⟨⟨b, hb⟩, m', hm'⟩
    · rintro ⟨⟨b, hb⟩, m, hm⟩
      exact ⟨b :: m, .cons hb hm⟩

/-- R20: LOAD_SEATS, a run within the table whose entries are all within their values. -/
theorem readLoadSeats_eq_some {first count : Byte} {l : List SeatEntryBytes} {d : Directive} :
    readLoadSeats (first :: count :: l.flatMap SeatEntryBytes.bytes) = some d ↔
      (1 ≤ count.toNat ∧ count.toNat ≤ 48 ∧ 1 ≤ first.toNat ∧ first.toNat + count.toNat ≤ 201) ∧
        ∃ entries, List.Forall₂ SeatEntryBytes.Reads l entries ∧ d = .loadSeats first.toNat entries := by
  simp only [readLoadSeats, byteAt, List.getD_cons_zero, List.getD_cons_succ, List.drop_succ_cons, List.drop_zero,
    Option.bind_eq_bind, Option.bind_eq_some_iff, readRun_eq_some, readSeatConfigs_flatMap]
  constructor
  · rintro ⟨run, ⟨h, rfl⟩, entries, he, hd⟩; exact ⟨h, entries, he, (Option.some.inj hd).symm⟩
  · rintro ⟨h, entries, he, rfl⟩; exact ⟨_, ⟨h, rfl⟩, entries, he, rfl⟩

theorem measured_loadSeats {len first count : Byte} {b : List Byte} (h : len.toNat = 2 + 5 * count.toNat)
    (hl : 2 + 5 * count.toNat ≤ 250) : Measured 1 len (first :: count :: b) :=
  ⟨rfl, by omega, by rw [h]; rfl⟩

theorem decode_loadSeats {len first count : Byte} {l : List SeatEntryBytes} (hl : 2 + 5 * count.toNat ≤ 250)
    (hlen : len.toNat = 2 + 5 * count.toNat) :
    ((count.toNat = 0 ∨ 48 < count.toNat ∨ first.toNat = 0 ∨ 201 < first.toNat + count.toNat ∨
        ∃ e ∈ l, 1 < e.enabled.toNat ∨ 3 < e.cls.toNat ∨ 1 < e.keyAction.toNat) →
      decodeMessage 1 len (first :: count :: l.flatMap SeatEntryBytes.bytes) = .refused .badValue) ∧
    (1 ≤ count.toNat → count.toNat ≤ 48 → 1 ≤ first.toNat → first.toNat + count.toNat ≤ 201 →
      (∀ e ∈ l, e.enabled.toNat ≤ 1 ∧ e.cls.toNat ≤ 3 ∧ e.keyAction.toNat ≤ 1) → ∃ entries,
        decodeMessage 1 len (first :: count :: l.flatMap SeatEntryBytes.bytes) = .accepted (.loadSeats first.toNat entries) ∧
          List.Forall₂ SeatEntryBytes.Reads l entries) := by
  have hm := measured_loadSeats (first := first) (b := l.flatMap SeatEntryBytes.bytes) hlen hl
  constructor
  · intro hbad
    refine decodeMessage_refused hm (Option.eq_none_iff_forall_ne_some.2 fun d hd => ?_)
    obtain ⟨hrun, entries, he, -⟩ := readLoadSeats_eq_some.1 hd
    obtain hbad | hbad | hbad | hbad | ⟨e, hel, hbad⟩ := hbad
    · omega
    · omega
    · omega
    · omega
    · have hok := SeatEntryBytes.exists_reads.1 (forall₂_exists.1 ⟨entries, he⟩ e hel)
      omega
  · intro h1 h2 h3 h4 hok
    obtain ⟨entries, he⟩ := forall₂_exists.2 fun e hel => SeatEntryBytes.exists_reads.2 (hok e hel)
    exact ⟨entries, decodeMessage_accepted hm (readLoadSeats_eq_some.2 ⟨⟨h1, h2, h3, h4⟩, entries, he, rfl⟩), he⟩

/-! ### READ_SEATS (R26) -/

theorem readReadSeats_eq_some {first count : Byte} {d : Directive} : readReadSeats [first, count] = some d ↔
    (1 ≤ count.toNat ∧ count.toNat ≤ 48 ∧ 1 ≤ first.toNat ∧ first.toNat + count.toNat ≤ 201) ∧
      d = .readSeats first.toNat count.toNat := by
  simp only [readReadSeats, byteAt, List.getD_cons_zero, List.getD_cons_succ, Option.bind_eq_bind, Option.bind_eq_some_iff,
    readRun_eq_some]
  constructor
  · rintro ⟨run, ⟨h, rfl⟩, hd⟩; exact ⟨h, (Option.some.inj hd).symm⟩
  · rintro ⟨h, rfl⟩; exact ⟨_, ⟨h, rfl⟩, rfl⟩

theorem decode_readSeats (first count : Byte) :
    (1 ≤ count.toNat ∧ count.toNat ≤ 48 ∧ 1 ≤ first.toNat ∧ first.toNat + count.toNat ≤ 201 →
      decodeMessage 2 2 [first, count] = .accepted (.readSeats first.toNat count.toNat)) ∧
    (¬(1 ≤ count.toNat ∧ count.toNat ≤ 48 ∧ 1 ≤ first.toNat ∧ first.toNat + count.toNat ≤ 201) →
      decodeMessage 2 2 [first, count] = .refused .badValue) := by
  have hm : Measured 2 2 [first, count] := ⟨rfl, by decide, rfl⟩
  constructor
  · exact fun h => decodeMessage_accepted hm (readReadSeats_eq_some.2 ⟨h, rfl⟩)
  · exact fun h => decodeMessage_refused hm (Option.eq_none_iff_forall_ne_some.2 fun d hd => h (readReadSeats_eq_some.1 hd).1)

/-! ### SET_GENERAL (R79, R168) -/

theorem readSetGeneral_eq_some {k p a r1 r2 l e ld st m : Byte} {d : Directive} :
    readSetGeneral [k, p, a, r1, r2, l, e, ld, st, m] = some d ↔
      (k.toNat ∈ [1, 2, 4, 8] ∧ r1.toNat * 256 + r2.toNat ∈ [32, 64, 128, 256, 512] ∧ e.toNat ≤ 1 ∧ ld.toNat ≤ 1 ∧ m.toNat < 64) ∧
      d = .setGeneral {
        settings := { filterDepth := k.toNat, presenceTimeout := max 2 (min p.toNat 250),
                      auditTolerance := max 1 (min a.toNat 15), rampLength := r1.toNat * 256 + r2.toNat,
                      lockout := min l.toNat 250, agendaEmpty := if e = 1 then .close else .keep, noticeMask := m }
        rotation := if ld = 1 then some (max 1 (min st.toNat 200)) else none } := by
  simp only [readSetGeneral, byteAt, wordAt, List.getD_cons_zero, List.getD_cons_succ, Option.bind_eq_bind,
    Option.bind_eq_some_iff, readOneOf_eq_some, readAgendaEmpty_eq_some, readYesNo_eq_some, byte_toNat_eq_one]
  constructor
  · rintro ⟨depth, ⟨h1, rfl⟩, ramp, ⟨h2, rfl⟩, ae, ⟨h3, rfl⟩, load, ⟨h4, rfl⟩, hd⟩
    split at hd
    swap
    · cases hd
    next h5 =>
    cases hd
    refine ⟨⟨h1, h2, h3, h4, h5⟩, ?_⟩
    simp [clamp, fitRotation, Config.seatCount, byte_toNat_eq_one]
  · rintro ⟨⟨h1, h2, h3, h4, h5⟩, rfl⟩
    refine ⟨_, ⟨h1, rfl⟩, _, ⟨h2, rfl⟩, _, ⟨h3, rfl⟩, _, ⟨h4, rfl⟩, ?_⟩
    rw [if_pos h5]
    simp [clamp, fitRotation, Config.seatCount, byte_toNat_eq_one]

theorem decode_setGeneral {k p a r1 r2 l e ld st m : Byte} :
    (k.toNat ∉ [1, 2, 4, 8] ∨ r1.toNat * 256 + r2.toNat ∉ [32, 64, 128, 256, 512] ∨ 1 < e.toNat ∨ 1 < ld.toNat ∨ 64 ≤ m.toNat →
      decodeMessage 3 10 [k, p, a, r1, r2, l, e, ld, st, m] = .refused .badValue) ∧
    (k.toNat ∈ [1, 2, 4, 8] → r1.toNat * 256 + r2.toNat ∈ [32, 64, 128, 256, 512] → e.toNat ≤ 1 → ld.toNat ≤ 1 → m.toNat < 64 →
      decodeMessage 3 10 [k, p, a, r1, r2, l, e, ld, st, m] = .accepted (.setGeneral {
        settings := { filterDepth := k.toNat, presenceTimeout := max 2 (min p.toNat 250),
                      auditTolerance := max 1 (min a.toNat 15), rampLength := r1.toNat * 256 + r2.toNat,
                      lockout := min l.toNat 250, agendaEmpty := if e = 1 then .close else .keep, noticeMask := m }
        rotation := if ld = 1 then some (max 1 (min st.toNat 200)) else none })) := by
  have hm : Measured 3 10 [k, p, a, r1, r2, l, e, ld, st, m] := ⟨rfl, by decide, rfl⟩
  constructor
  · intro hbad
    refine decodeMessage_refused hm (Option.eq_none_iff_forall_ne_some.2 fun d hd => ?_)
    obtain ⟨⟨h1, h2, h3, h4, h5⟩, -⟩ := readSetGeneral_eq_some.1 hd
    obtain hbad | hbad | hbad | hbad | hbad := hbad
    · exact hbad h1
    · exact hbad h2
    · omega
    · omega
    · omega
  · exact fun h1 h2 h3 h4 h5 => decodeMessage_accepted hm (readSetGeneral_eq_some.2 ⟨⟨h1, h2, h3, h4, h5⟩, rfl⟩)

/-! ### STAGE_ITEM (R53, R54) -/

theorem readStageItem_eq_some {i1 i2 mode live list adm cf l1 l2 ct w1 w2 ex bt d1 d2 pe su ca : Byte} {d : Directive} :
    readStageItem [i1, i2, mode, live, list, adm, cf, l1, l2, ct, w1, w2, ex, bt, d1, d2, pe, su, ca] = some d ↔
      (live ≠ 0 ∧ adm.toNat < 16 ∧ cf.toNat ≤ 1 ∧ ct.toNat ≤ 1 ∧ ex.toNat ≤ 1 ∧ bt ≠ 0 ∧ pe.toNat ≤ 1 ∧ su.toNat ≤ 1 ∧
        ca.toNat ≤ 1) ∧
      ∃ m, [Mode.direct, .queued, .moderated, .override][mode.toNat]? = some m ∧ d = .stageItem {
        item := i1.toNat * 256 + i2.toNat, mode := m, maxLive := min live.toNat 8, listLimit := min list.toNat 64,
        admitted := { delegate := adm.getLsbD 0, chair := adm.getLsbD 1, guest := adm.getLsbD 2, observer := adm.getLsbD 3 },
        chairFirst := cf == 1, limit := min (l1.toNat * 256 + l2.toNat) 3600, chairTimed := ct == 1,
        warningLead := min (w1.toNat * 256 + w2.toNat) 600, expiry := if ex = 1 then .warnOnly else .revoke,
        batch := min bt.toNat 8, duckDepth := min (d1.toNat * 256 + d2.toNat) 32768,
        priorityEnd := if pe = 1 then .clear else .resume, suspendWhileHeld := su == 1, carryFloor := ca == 1 } := by
  simp only [readStageItem, byteAt, wordAt, List.getD_cons_zero, List.getD_cons_succ, Option.bind_eq_bind,
    Option.bind_eq_some_iff, readMode_eq, readPositive_eq_some, readClassSet_eq_some, readYesNo_eq_some, readExpiry_eq_some,
    readPriorityEnd_eq_some, byte_toNat_eq_one, byte_toNat_beq_one, ne_eq, byte_toNat_eq_zero]
  constructor
  · rintro ⟨m, h1, ml, ⟨h2, rfl⟩, as, ⟨h3, rfl⟩, x4, ⟨h4, rfl⟩, x5, ⟨h5, rfl⟩, x6, ⟨h6, rfl⟩, x7, ⟨h7, rfl⟩, x8, ⟨h8, rfl⟩,
      x9, ⟨h9, rfl⟩, x10, ⟨h10, rfl⟩, hd⟩
    exact ⟨⟨h2, h3, h4, h5, h6, h7, h8, h9, h10⟩, m, h1, (Option.some.inj hd).symm⟩
  · rintro ⟨⟨h2, h3, h4, h5, h6, h7, h8, h9, h10⟩, m, h1, rfl⟩
    exact ⟨m, h1, _, ⟨h2, rfl⟩, _, ⟨h3, rfl⟩, _, ⟨h4, rfl⟩, _, ⟨h5, rfl⟩, _, ⟨h6, rfl⟩, _, ⟨h7, rfl⟩, _, ⟨h8, rfl⟩,
      _, ⟨h9, rfl⟩, _, ⟨h10, rfl⟩, rfl⟩

theorem measured_stageItem (i1 i2 mode live list adm cf l1 l2 ct w1 w2 ex bt d1 d2 pe su ca : Byte) :
    Measured 4 19 [i1, i2, mode, live, list, adm, cf, l1, l2, ct, w1, w2, ex, bt, d1, d2, pe, su, ca] := ⟨rfl, by decide, rfl⟩

theorem decode_stageItem_refused {i1 i2 mode live list adm cf l1 l2 ct w1 w2 ex bt d1 d2 pe su ca : Byte}
    (hbad : 3 < mode.toNat ∨ live = 0 ∨ 16 ≤ adm.toNat ∨ 1 < cf.toNat ∨ 1 < ct.toNat ∨ 1 < ex.toNat ∨ bt = 0 ∨ 1 < pe.toNat ∨
      1 < su.toNat ∨ 1 < ca.toNat) :
    decodeMessage 4 19 [i1, i2, mode, live, list, adm, cf, l1, l2, ct, w1, w2, ex, bt, d1, d2, pe, su, ca] =
      .refused .badValue := by
  refine decodeMessage_refused (measured_stageItem ..) (Option.eq_none_iff_forall_ne_some.2 fun d hd => ?_)
  obtain ⟨⟨h2, h3, h4, h5, h6, h7, h8, h9, h10⟩, m, h1, -⟩ := readStageItem_eq_some.1 hd
  have hmode := (List.getElem?_eq_some_iff.1 h1).1
  simp only [List.length_cons, List.length_nil] at hmode
  obtain hbad | hbad | hbad | hbad | hbad | hbad | hbad | hbad | hbad | hbad := hbad
  case inr.inl => exact h2 hbad
  case inr.inr.inr.inr.inr.inr.inl => exact h7 hbad
  all_goals omega

/-! ### The directives that name a seat (R95, R119, R159) -/

theorem decode_seat {n x y : Byte} (h : 1 ≤ n.toNat ∧ n.toNat ≤ 200) :
    decodeMessage 7 1 [n] = .accepted (.grant n.toNat) ∧ decodeMessage 8 1 [n] = .accepted (.revoke n.toNat) ∧
      decodeMessage 10 1 [n] = .accepted (.remove n.toNat) ∧
      decodeMessage 9 2 [n, x] = .accepted (.enqueue n.toNat x.toNat) ∧
      decodeMessage 13 3 [n, x, y] = .accepted (.extend n.toNat (min (x.toNat * 256 + y.toNat) 3600)) := by
  have hs : readSeat (byteAt [n] 0) = some n.toNat := readSeat_of_range h
  have hs2 : readSeat (byteAt [n, x] 0) = some n.toNat := readSeat_of_range h
  have hs3 : readSeat (byteAt [n, x, y] 0) = some n.toNat := readSeat_of_range h
  refine ⟨decodeMessage_accepted ⟨rfl, by decide, rfl⟩ ?_, decodeMessage_accepted ⟨rfl, by decide, rfl⟩ ?_,
    decodeMessage_accepted ⟨rfl, by decide, rfl⟩ ?_, decodeMessage_accepted ⟨rfl, by decide, rfl⟩ ?_,
    decodeMessage_accepted ⟨rfl, by decide, rfl⟩ ?_⟩
  · exact congrArg (Option.map Directive.grant) hs
  · exact congrArg (Option.map Directive.revoke) hs
  · exact congrArg (Option.map Directive.remove) hs
  · exact congrArg (Option.bind · fun k => some (Directive.enqueue k x.toNat)) hs2
  · exact congrArg (Option.bind · fun k => some (Directive.extend k (min (x.toNat * 256 + y.toNat) 3600))) hs3

theorem decode_seat_refused {n x y : Byte} (h : n.toNat = 0 ∨ 200 < n.toNat) :
    decodeMessage 7 1 [n] = .refused .badValue ∧ decodeMessage 8 1 [n] = .refused .badValue ∧
      decodeMessage 10 1 [n] = .refused .badValue ∧ decodeMessage 9 2 [n, x] = .refused .badValue ∧
      decodeMessage 13 3 [n, x, y] = .refused .badValue := by
  have hs : readSeat (byteAt [n] 0) = none := readSeat_of_out h
  have hs2 : readSeat (byteAt [n, x] 0) = none := readSeat_of_out h
  have hs3 : readSeat (byteAt [n, x, y] 0) = none := readSeat_of_out h
  refine ⟨decodeMessage_refused ⟨rfl, by decide, rfl⟩ ?_, decodeMessage_refused ⟨rfl, by decide, rfl⟩ ?_,
    decodeMessage_refused ⟨rfl, by decide, rfl⟩ ?_, decodeMessage_refused ⟨rfl, by decide, rfl⟩ ?_,
    decodeMessage_refused ⟨rfl, by decide, rfl⟩ ?_⟩
  · exact congrArg (Option.map Directive.grant) hs
  · exact congrArg (Option.map Directive.revoke) hs
  · exact congrArg (Option.map Directive.remove) hs
  · exact congrArg (Option.bind · fun k => some (Directive.enqueue k x.toNat)) hs2
  · exact congrArg (Option.bind · fun k => some (Directive.extend k (min (x.toNat * 256 + y.toNat) 3600))) hs3

theorem decode_clearFlag (n : Byte) : decodeMessage 14 1 [n] = .accepted (.clearFlag n.toNat) :=
  decodeMessage_accepted ⟨rfl, by decide, rfl⟩ rfl

/-- Settles O49: each reader of a field says which values it takes (`readYesNo_eq_some` and its like), so each reader of a body says
when it accepts and what it stores; the bodies here are of the length their kinds require (`Measured`). -/
theorem directiveFieldsAreChecked : Obligations.DirectiveFieldsAreChecked := by
  refine ⟨fun len first count l d _ hl hlen hd => ?_, decode_readSeats, fun k p a r1 r2 l e ld st m ramp hramp => ?_,
    fun i1 i2 mode live list adm cf l1 l2 ct w1 w2 ex bt d1 d2 pe su ca => ⟨_, rfl, decode_stageItem_refused,
      fun h1 h2 h3 h4 h5 h6 h7 h8 h9 h10 => ?_⟩, fun n x y => ⟨decode_seat, decode_seat_refused, decode_clearFlag n⟩⟩
  · subst hd
    obtain ⟨hrefused, haccepted⟩ := decode_loadSeats (first := first) (l := l) hl hlen
    refine ⟨hrefused, fun h1 h2 h3 h4 hok => ?_⟩
    obtain ⟨entries, hd, he⟩ := haccepted h1 h2 h3 h4 hok
    refine ⟨entries, hd, he.length_eq.symm, fun i e x hi hx => ?_⟩
    obtain ⟨hi1, rfl⟩ := List.getElem?_eq_some_iff.1 hi
    obtain ⟨hi2, rfl⟩ := List.getElem?_eq_some_iff.1 hx
    obtain ⟨-, hread⟩ := he.get hi1 hi2
    exact hread
  · subst hramp
    exact decode_setGeneral
  · obtain ⟨m, hm⟩ : ∃ m, [Mode.direct, .queued, .moderated, .override][mode.toNat]? = some m :=
      ⟨_, List.getElem?_eq_getElem (by simp only [List.length_cons, List.length_nil]; omega)⟩
    exact ⟨_, decodeMessage_accepted (measured_stageItem ..)
      (readStageItem_eq_some.2 ⟨⟨h2, h3, h4, h5, h6, h7, h8, h9, h10⟩, m, hm, rfl⟩), rfl, hm, rfl, rfl, rfl, rfl, rfl, rfl, rfl, rfl,
      rfl, rfl, rfl, rfl, rfl⟩

end Sys2Proof.Machine
end

section
/-! ## What a load of the seat table does (R21 to R24, R126) -/

namespace Sys2Proof.Machine

section
variable {s : State} {n first : Nat} {l : List SeatConfig}

/-! ### Seats taken off the floor (R22, R32) -/

theorem State.takeOff_of_idle {r : Reason} {m : List Nat} (h : ∀ n ∈ m, (s.seat n).place = .idle) : s.takeOff m r = s := by
  have hwait : (m.filter fun n => (s.seat n).place == .waiting) = [] := List.filter_eq_nil_iff.2 fun n hn => by simp [h n hn]
  have hlive : (m.filter fun n => (s.seat n).place == .live) = [] := List.filter_eq_nil_iff.2 fun n hn => by simp [h n hn]
  rw [State.takeOff, hwait, hlive]
  rfl

theorem State.takeOff_of_waiting (r : Reason) (h : (s.seat n).place = .waiting) : s.takeOff [n] r = s.removeWaiting n r := by
  simp [State.takeOff, h]

theorem State.takeOff_of_live (r : Reason) (h : (s.seat n).place = .live) : s.takeOff [n] r = s.endSeat n r := by
  simp [State.takeOff, h]

theorem State.endSeat_of_ordinary {c : Chan} (r : Reason) (h : (s.seat n).bound = some c) (hc : c ≠ .p) :
    s.endSeat n r = (s.release c n r).fill := by
  unfold State.endSeat
  rw [h]
  cases c with
  | p => exact absurd rfl hc
  | _ => rfl

/-- R107, R131, R132: the End of channel P under an active context. -/
theorem State.endSeat_of_holder {c : Context} (r : Reason) (h : (s.seat n).bound = some .p) (ha : s.active = some c) :
    s.endSeat n r = s.interventionEnded n r c := by
  have hactive : (s.release .p n r).active = some c := (State.active_of_frozen (s.frozen_release .p n r)).trans ha
  rw [State.endSeat, h]
  show (s.release .p n r).endIntervention n = _
  rw [State.endIntervention, hactive, State.interventionEnded]
  dsimp only
  cases c.priorityEnd <;> rfl

/-! ### The run of a load (R20, R21) -/

/-- R20: the run of a load lies within the table. -/
structure State.Holds (s : State) (first : Nat) (l : List SeatConfig) : Prop where
  one_le : 1 ≤ first
  last_le : first + l.length ≤ 201
  seats : s.seats.length = 200

theorem State.loadedConfig_of_out (h : n < first ∨ first + l.length ≤ n) : s.loadedConfig first l n = (s.seat n).config := by
  unfold State.loadedConfig
  split
  · rw [List.getD_eq_default _ _ (by omega)]
  · rfl

/-- R21: each seat after the load, also a number that names none. -/
theorem State.Holds.seat_writeConfigs (h : s.Holds first l) (n : Nat) :
    (s.writeConfigs first l).seat n = (s.seat n).withConfig (s.loadedConfig first l n) := by
  obtain ⟨h1, h2, h3⟩ := h
  by_cases hn : 1 ≤ n ∧ n ≤ s.seats.length
  · exact s.seat_writeConfigs first l hn.1 hn.2
  · have hlen := s.writeConfigs_length first l
    rw [State.loadedConfig_of_out (by omega), Seat.withConfig_self, State.seat_out _ (by omega), State.seat_out s (by omega)]

theorem State.admitted_eq (s : State) (n : Nat) :
    s.admitted n = (s.active.map fun c => c.admitted.admits (s.seat n).config.cls).getD false := by
  unfold State.admitted
  cases s.active <;> rfl

/-- R22: a seat of the run has to leave the floor where its entry changed and no longer fits its place. -/
theorem State.Holds.madeUnfit_eq (h : s.Holds first l) (n : Nat) : s.madeUnfit first l n =
    ((s.seat n).config != s.loadedConfig first l n && (s.writeConfigs first l).unfit n) := by
  have hactive : (s.writeConfigs first l).active = s.active := by rw [s.writeConfigs_eq first l]; rfl
  by_cases hn : first ≤ n ∧ n < first + l.length
  · have hget : (if first ≤ n then l[n - first]? else none) = some (s.loadedConfig first l n) := by
      rw [State.loadedConfig, if_pos hn.1, if_pos hn.1, List.getD_eq_getElem?_getD,
        List.getElem?_eq_getElem (show n - first < l.length by omega)]
      rfl
    rw [State.madeUnfit, hget, State.unfit, State.isChair, State.classOf, State.admitted_eq, hactive, h.seat_writeConfigs,
      Seat.withConfig_eq]
    cases (s.seat n).place with
    | idle => rfl
    | waiting => rfl
    | live =>
      cases (s.seat n).bound with
      | none => rfl
      | some c => cases c <;> rfl
  · have hget : (if first ≤ n then l[n - first]? else none) = none := by
      split
      · rw [List.getElem?_eq_none (by omega)]
      · rfl
    rw [State.madeUnfit, hget, State.loadedConfig_of_out (by omega)]
    simp

/-- The seats of a run that meet a condition only they can meet are those of the table that do. -/
theorem filter_run {p : Nat → Bool} {k : Nat} (h1 : 1 ≤ first) (h2 : first + k ≤ 201)
    (hp : ∀ n, p n = true → first ≤ n ∧ n < first + k) : (List.range' first k).filter p = seatNumbers.filter p := by
  have hsplit : seatNumbers = List.range' 1 (first - 1) ++ (List.range' first k ++ List.range' (first + k) (201 - (first + k))) := by
    have hinner := List.range'_append_1 (s := first) (m := k) (n := 201 - (first + k))
    have houter := List.range'_append_1 (s := 1) (m := first - 1) (n := k + (201 - (first + k)))
    rw [show 1 + (first - 1) = first by omega] at houter
    rw [hinner, houter, seatNumbers, Config.seatCount]
    congr 1
    omega
  have hout : ∀ a m, (∀ n, a ≤ n → n < a + m → n < first ∨ first + k ≤ n) → (List.range' a m).filter p = [] := fun a m h =>
    List.filter_eq_nil_iff.2 fun n hn hpn => by
      rw [List.mem_range'_1] at hn
      have := h n hn.1 hn.2
      have := hp n hpn
      omega
  rw [hsplit, List.filter_append, List.filter_append, hout 1 (first - 1) fun n _ _ => by omega,
    hout (first + k) _ fun n _ _ => by omega]
  simp

/-- R22: the seats that have to leave the floor, ascending, by a condition on the place they have. -/
theorem State.Holds.filter_unfit (h : s.Holds first l) (q : Nat → Bool) :
    ((s.changedSeats first l).filter (s.writeConfigs first l).unfit).filter q =
      seatNumbers.filter fun n => q n && s.madeUnfit first l n := by
  rw [State.changedSeats_eq, List.filter_filter, List.filter_filter,
    ← filter_run (p := fun n => q n && s.madeUnfit first l n) h.one_le h.last_le]
  · refine List.filter_congr fun n _ => ?_
    rw [h.madeUnfit_eq]
    cases q n <;> cases (s.writeConfigs first l).unfit n <;> simp
  · intro n hn
    by_contra hout
    rw [h.madeUnfit_eq, State.loadedConfig_of_out (by omega)] at hn
    simp at hn

/-- What a dispatched LOAD_SEATS does. -/
theorem exec_loadSeats_due {tag : Byte} {rest : List Entry} (h : s.Dispatching tag (.loadSeats first l) rest) :
    exec .loadSeats s = .next ((s.withBuffer rest).loadSeats tag first l) :=
  congrArg Host.Outcome.next (State.dispatch_due h _)

theorem State.Holds.withBuffer (h : s.Holds first l) (rest : List Entry) : (s.withBuffer rest).Holds first l :=
  ⟨h.one_le, h.last_le, h.seats⟩

theorem State.loadedConfig_withBuffer (rest : List Entry) : (s.withBuffer rest).loadedConfig first l n = s.loadedConfig first l n := by
  simp only [State.loadedConfig, State.seat_withBuffer]

theorem State.madeUnfit_withBuffer (rest : List Entry) : (s.withBuffer rest).madeUnfit first l n = s.madeUnfit first l n := by
  unfold State.madeUnfit
  rw [State.seat_withBuffer]
  rfl

/-! ### The load as a whole -/

/-- R21, R23: what a load leaves of a seat, on the floor or off it. -/
theorem State.Holds.loadSeats_seat (h : s.Holds first l) (tag : Byte) (n : Nat) :
    ((s.loadSeats tag first l).seat n).frozen = ((s.seat n).withConfig (s.loadedConfig first l n)).frozen := by
  rw [← h.seat_writeConfigs]
  exact (State.frozen_seat ((s.writeConfigs first l).frozen_takeOff _ .disabled) n : _)

theorem State.loadSeats_replies (s : State) (tag : Byte) (first : Nat) (l : List SeatConfig) :
    (s.loadSeats tag first l).replies = s.replies ++ [{ tag := tag, body := .seatsLoaded first l.length }] := by
  have hoff := (congrArg State.replies ((s.writeConfigs first l).frozen_takeOff
    ((s.changedSeats first l).filter (s.writeConfigs first l).unfit) .disabled) : _)
  have hwrite : (s.writeConfigs first l).replies = s.replies := by rw [s.writeConfigs_eq first l]
  exact congrArg (· ++ [_]) ((hoff : _).trans hwrite)

/-- R22: with no seat on the floor a load takes none off it. -/
theorem State.Holds.loadSeats_idle (h : s.Holds first l) (tag : Byte) (hidle : ∀ n ∈ seatNumbers, (s.seat n).place = .idle) :
    s.loadSeats tag first l = (s.writeConfigs first l).reply tag (.seatsLoaded first l.length) := by
  refine congrArg (fun u : State => u.reply tag (.seatsLoaded first l.length)) (State.takeOff_of_idle fun n _ => ?_)
  rw [h.seat_writeConfigs, Seat.withConfig_eq]
  by_cases hn : n ∈ seatNumbers
  · exact hidle n hn
  · rw [mem_seatNumbers] at hn
    rw [State.seat_out s (by have := h.seats; omega)]
    rfl

/-- R22: the seats the load makes unfit leave the floor, the waiting ones first. -/
theorem State.Holds.loadSeats_passes (h : s.Holds first l) (tag : Byte) : s.loadSeats tag first l =
    ((seatNumbers.filter fun n => (s.seat n).place == .live && s.madeUnfit first l n).foldl (fun v n => v.endSeat n .disabled)
      ((seatNumbers.filter fun n => (s.seat n).place == .waiting && s.madeUnfit first l n).foldl
        (fun v n => v.removeWaiting n .disabled) (s.writeConfigs first l))).reply tag (.seatsLoaded first l.length) := by
  have hplace : ∀ n, ((s.writeConfigs first l).seat n).place = (s.seat n).place := fun n => by
    rw [h.seat_writeConfigs, Seat.withConfig_eq]
  rw [State.loadSeats]
  simp only [State.takeOff, hplace, h.filter_unfit]

/-! ### A load of one entry -/

theorem State.updSeat_congr {f g : Seat → Seat} (h : f (s.seat n) = g (s.seat n)) : s.updSeat n f = s.updSeat n g := by
  cases n with
  | zero => rfl
  | succ k =>
    have hseats : s.seats.modify k f = s.seats.modify k g := by
      refine List.ext_getElem? fun i => ?_
      rw [List.getElem?_modify, List.getElem?_modify]
      by_cases hi : k = i
      · subst hi
        simp only [State.seat, List.getD_eq_getElem?_getD] at h
        cases hs : s.seats[k]? with
        | none => rfl
        | some x => simpa [hs] using h
      · simp [hi]
    simp only [State.updSeat, hseats]

/-- R21: one changed entry, as it is loaded. -/
theorem State.loadSeats_one {x : SeatConfig} (tag : Byte) (hx : (s.seat n).config ≠ x) :
    s.loadSeats tag n [x] =
      (((s.updSeat n fun t => { t with config := x, armed := t.armed && x.enabled && x.cls == .chair }).takeOff
        ([n].filter (s.updSeat n fun t => { t with config := x, armed := t.armed && x.enabled && x.cls == .chair }).unfit)
          .disabled).reply tag (.seatsLoaded n 1)) := by
  have hwrite : s.writeConfigs n [x] = s.updSeat n fun t => { t with config := x, armed := t.armed && x.enabled && x.cls == .chair } :=
    State.updSeat_congr (if_neg hx)
  rw [State.loadSeats, hwrite, State.changedSeats, if_neg hx]
  rfl

/-- R22: a seat fits any place but channel P while it is enabled and admitted. -/
theorem State.unfit_of_fits (he : (s.seat n).config.enabled = true) (ha : s.admitted n = true) (hb : (s.seat n).bound ≠ some .p) :
    s.unfit n = false := by
  unfold State.unfit
  split
  · rfl
  · next hp => exact absurd hp hb
  · simp [he, ha]

/-- R21 to R24: what a load leaves of every seat, from what stands of it on the floor or off it. -/
theorem Seat.loaded_of_frozen {x y : Seat} {e : SeatConfig} (h : y.frozen = (x.withConfig e).frozen) :
    y.config = e ∧ y.present = x.present ∧ y.silence = x.silence ∧ y.keys = x.keys ∧ y.mismatch = x.mismatch ∧
      y.pendingSense = x.pendingSense ∧ y.flagged = x.flagged ∧
      y.armed = (x.armed && (y.config == x.config || y.config.enabled && y.config.cls == .chair)) := by
  rw [Seat.withConfig_eq] at h
  cases y
  simp only [Seat.frozen, Seat.mk.injEq] at h
  obtain ⟨rfl, rfl, rfl, rfl, rfl, -, -, -, rfl, rfl, rfl, -⟩ := h
  exact ⟨rfl, rfl, rfl, rfl, rfl, rfl, rfl, rfl⟩

/-- R22, R126: one loaded entry, the seat's own end, by the place it has. -/
theorem State.loadSeats_one_cases {u : State} {x : SeatConfig} (tag : Byte) (hn : n ∈ seatNumbers) (hl : s.seats.length = 200)
    (hx : (s.seat n).config ≠ x)
    (hu : u = s.updSeat n fun t => { t with config := x, armed := t.armed && x.enabled && x.cls == .chair }) :
    (∀ ctx, s.active = some ctx → (x.enabled = false ∨ ctx.admitted.admits x.cls = false) →
      ((s.seat n).place = .waiting → s.loadSeats tag n [x] = (u.removeWaiting n .disabled).reply tag (.seatsLoaded n 1)) ∧
      (∀ c, c ≠ .p → (s.seat n).place = .live → (s.seat n).bound = some c →
        s.loadSeats tag n [x] = (u.release c n .disabled).fill.reply tag (.seatsLoaded n 1))) ∧
    (∀ ctx, s.active = some ctx → (s.seat n).place = .live → (s.seat n).bound = some .p →
      ((x.enabled = false ∨ x.cls ≠ .chair) →
        s.loadSeats tag n [x] = (u.interventionEnded n .disabled ctx).reply tag (.seatsLoaded n 1)) ∧
      (x.enabled = true → x.cls = .chair → s.loadSeats tag n [x] = u.reply tag (.seatsLoaded n 1))) ∧
    (∀ ctx, s.active = some ctx → x.enabled = true → ctx.admitted.admits x.cls = true → (s.seat n).bound ≠ some .p →
      s.loadSeats tag n [x] = u.reply tag (.seatsLoaded n 1)) := by
  rw [mem_seatNumbers] at hn
  have hseat : u.seat n = { s.seat n with config := x, armed := (s.seat n).armed && x.enabled && x.cls == .chair } :=
    hu ▸ s.seat_updSeat_same _ hn.1 (by omega)
  have hplace : (u.seat n).place = (s.seat n).place := by rw [hseat]
  have hbound : (u.seat n).bound = (s.seat n).bound := by rw [hseat]
  have hactive : u.active = s.active := by rw [hu]; simp [State.active]
  have hload : s.loadSeats tag n [x] = (u.takeOff ([n].filter u.unfit) .disabled).reply tag (.seatsLoaded n 1) :=
    hu ▸ State.loadSeats_one tag hx
  have hleaves : u.unfit n = true → s.loadSeats tag n [x] = (u.takeOff [n] .disabled).reply tag (.seatsLoaded n 1) := fun h => by
    rw [hload, List.filter_singleton, h]; rfl
  have hstays : u.unfit n = false → s.loadSeats tag n [x] = u.reply tag (.seatsLoaded n 1) := fun h => by
    rw [hload, List.filter_singleton, h]; rfl
  have hadmitted : ∀ ctx, s.active = some ctx → u.admitted n = ctx.admitted.admits x.cls := fun ctx ha => by
    rw [State.admitted_eq, hactive, ha, hseat]; rfl
  refine ⟨fun ctx ha hno => ⟨fun hw => ?_, fun c hc hlive hb => ?_⟩, fun ctx ha hlive hb => ⟨fun hno => ?_, fun he hch => ?_⟩,
    fun ctx ha he hok hb => ?_⟩
  · rw [hleaves, State.takeOff_of_waiting _ (hplace.trans hw)]
    rw [State.unfit_of_waiting (hplace.trans hw), hadmitted ctx ha, hseat]
    simpa using hno
  · rw [hleaves, State.takeOff_of_live _ (hplace.trans hlive), State.endSeat_of_ordinary _ (hbound.trans hb) hc]
    rw [State.unfit_of_ordinary (hbound.trans hb) hc (hplace.trans hlive), hadmitted ctx ha, hseat]
    simpa using hno
  · rw [hleaves, State.takeOff_of_live _ (hplace.trans hlive), State.endSeat_of_holder _ (hbound.trans hb) (hactive.trans ha)]
    rw [State.unfit_of_holder (hbound.trans hb) (hplace.trans hlive), State.isChair, State.classOf, hseat]
    simpa using hno
  · refine hstays ?_
    rw [State.unfit_of_holder (hbound.trans hb) (hplace.trans hlive), State.isChair, State.classOf, hseat]
    simp [he, hch]
  · exact hstays (State.unfit_of_fits (by rw [hseat]; exact he) ((hadmitted ctx ha).trans hok) (by rwa [hbound]))

end

/-- Settles O39: the load writes the table (`State.Holds.seat_writeConfigs`), and what follows it on the floor leaves every seat as
written but for its place; the seats taken off are those of the run whose changed entry no longer fits (`State.Holds.madeUnfit_eq`). -/
theorem loadSeatsWritesRun : Obligations.LoadSeatsWritesRun := by
  refine ⟨fun s tag first l rest hd h1 h2 h3 => ?_, fun s tag first l rest hd h1 h2 h3 => ?_, fun s tag n x rest hd hn hl hx => ?_⟩
  · have hs : s.Holds first l := ⟨h1, h2, h3⟩
    have hb := hs.withBuffer rest
    have hseat : ∀ n, (((s.withBuffer rest).loadSeats tag first l).seat n).frozen =
        ((s.seat n).withConfig (s.loadedConfig first l n)).frozen := fun n => by
      rw [hb.loadSeats_seat, State.seat_withBuffer, State.loadedConfig_withBuffer]
    refine ⟨_, exec_loadSeats_due hd, fun n => (Seat.loaded_of_frozen (hseat n)).1, fun n => (Seat.loaded_of_frozen (hseat n)).2,
      State.loadSeats_replies _ _ _ _, fun hidle => ?_⟩
    have heq := (s.withBuffer rest).writeConfigs_eq first l
    rw [hb.loadSeats_idle tag (by simpa using hidle)]
    refine ⟨?_, fun n => ?_⟩
    · generalize ((s.withBuffer rest).writeConfigs first l).seats = table at heq
      rw [heq]
      rfl
    · rw [State.seat_reply, hb.seat_writeConfigs, Seat.withConfig_eq, State.seat_withBuffer]
  · have hb := State.Holds.withBuffer ⟨h1, h2, h3⟩ rest
    have hseat : ∀ n, ((s.withBuffer rest).writeConfigs first l).seat n = (s.seat n).withConfig (s.loadedConfig first l n) := fun n => by
      rw [hb.seat_writeConfigs, State.seat_withBuffer, State.loadedConfig_withBuffer]
    refine ⟨_, (s.withBuffer rest).writeConfigs_eq first l, ((s.withBuffer rest).writeConfigs_length first l).trans h3,
      fun n => ?_, ?_⟩
    · rw [hseat, Seat.withConfig_eq]
      exact ⟨rfl, rfl⟩
    · rw [exec_loadSeats_due hd, hb.loadSeats_passes]
      simp only [State.seat_withBuffer, State.madeUnfit_withBuffer]
  · have hrun := State.loadSeats_one_cases (s := s.withBuffer rest) tag hn hl (by simpa using hx) rfl
    simp only [State.seat_withBuffer] at hrun
    refine ⟨_, rfl, ?_⟩
    simp only [exec_loadSeats_due hd, Host.Outcome.next.injEq]
    exact hrun

end Sys2Proof.Machine
end

section
/-! ## The loss of seats (R32, R40, R107, R109, R158) -/

namespace Sys2Proof.Machine

section
variable {s t u : State} {n : Nat}

/-! ### Seats that leave the floor stay off it -/

/-- An operation that puts no seat on the waiting list, and no idle seat on the floor. -/
structure State.Empties (s t : State) : Prop where
  seated : t.Seated
  unlisted : ∀ n, (s.seat n).place ≠ .waiting → (t.seat n).place ≠ .waiting
  idle : ∀ n, (s.seat n).place = .idle → (t.seat n).place = .idle

theorem State.Empties.refl (h : s.Seated) : s.Empties s := ⟨h, fun _ => id, fun _ => id⟩

theorem State.Empties.trans (h1 : s.Empties t) (h2 : t.Empties u) : s.Empties u :=
  ⟨h2.seated, fun n hn => h2.unlisted n (h1.unlisted n hn), fun n hn => h2.idle n (h1.idle n hn)⟩

theorem State.Empties.raise (h : s.Empties t) (x : Notice) : s.Empties (t.raise x) :=
  h.trans ⟨h.seated.of_view (State.frozen_length (t.frozen_raise x)) (by simp) (by simp) (by simp) (by simp),
    by simp, by simp⟩

theorem State.Seated.empties_removeWaiting (h : s.Seated) (hn : (s.seat n).place ≠ .live) (r : Reason) :
    s.Empties (s.removeWaiting n r) := by
  refine ⟨h.removeWaiting hn r, fun m hm => ?_, fun m hm => ?_⟩ <;> rw [State.removeWaiting_seat] <;> split
  · simp
  · exact hm
  · rfl
  · exact hm

theorem State.Seated.empties_release (h : s.Seated) {c : Chan} (hc : (s.chan c).seat = some n) (r : Reason) :
    s.Empties (s.release c n r) := by
  refine ⟨h.release hc r, fun m hm => ?_, fun m hm => ?_⟩ <;> rw [(s.release_place c n m r).1] <;> split
  · simp
  · exact hm
  · rfl
  · exact hm

theorem State.Seated.empties_grantHeads (k : Nat) (h : s.Seated) : s.Empties (State.grantHeads k s) := by
  induction k generalizing s with
  | zero => exact .refl h
  | succ k ih =>
    unfold State.grantHeads
    split
    swap
    · exact .refl h
    next e rest c hw hr =>
    have hwait : (s.seat e.seat).place = .waiting := (h.listed _).2 (by simp [hw])
    have hrange : e.seat ∈ seatNumbers := by
      by_contra hout
      rw [mem_seatNumbers] at hout
      rw [State.seat_out s (by have := h.seats; omega)] at hwait
      cases hwait
    obtain ⟨-, hfree, -⟩ := State.room_free hr
    have hgrant := h.grant hrange (by simp [hwait]) (c := c) (by simp [hfree]) true
    rw [h.leaveSilently_head hw] at hgrant
    have hother : ∀ m, m ≠ e.seat → ({ s with waiting := rest }.grant c e.seat true).seat m = s.seat m := fun m hm => by
      rw [State.grant_seat_ne _ _ _ hm]; rfl
    obtain ⟨hr1, hr2⟩ := mem_seatNumbers.1 hrange
    refine State.Empties.trans ⟨hgrant, fun m hm => ?_, fun m hm => ?_⟩ (ih hgrant)
    · rw [hother m (by rintro rfl; exact hm hwait)]; exact hm
    · rw [hother m (by rintro rfl; rw [hwait] at hm; cases hm)]; exact hm

theorem State.Seated.empties_fill (h : s.Seated) : s.Empties s.fill := by
  unfold State.fill
  split <;> [exact h.empties_grantHeads _; exact .refl h]

theorem State.Seated.empties_endOrdinary (h : s.Seated) {c : Chan} (hc : (s.chan c).seat = some n) (r : Reason) :
    s.Empties (s.endOrdinary c n r) := (h.empties_release hc r).trans (h.release hc r).empties_fill

theorem State.Seated.empties_endGrants (h : s.Seated) (r : Reason) {l : List Speaker}
    (hl : ∀ e ∈ l, (s.chan e.chan).seat = some e.seat) (hnd : (l.map Speaker.chan).Nodup) :
    s.Empties (l.foldl (fun s e => s.endOrdinary e.chan e.seat r) s) := by
  induction l generalizing s with
  | nil => exact .refl h
  | cons e l ih =>
    rw [List.map_cons, List.nodup_cons] at hnd
    have hfirst := h.empties_endOrdinary (hl e List.mem_cons_self) r
    refine hfirst.trans (ih hfirst.seated (fun x hx => ?_) hnd.2)
    have hseat := hl x (List.mem_cons_of_mem e hx)
    have hlive : (s.chan x.chan).state = .live := (h.held _).2 (by simp [hseat])
    have hne : x.chan ≠ e.chan := fun he => hnd.1 (he ▸ List.mem_map_of_mem hx)
    rw [State.endOrdinary_chan_ne s e.seat r hne (.inr (by simp [hlive])), hseat]

theorem State.Seated.empties_endSpeakers (h : s.Seated) (r : Reason) : s.Empties (s.endSpeakers r) :=
  h.empties_endGrants r (fun e he => ((h.speaks e).1 he).2.2) h.speakersOnce

theorem State.Seated.empties_endIntervention (h : s.Seated) (n : Nat) : s.Empties (s.endIntervention n) := by
  have hopen : s.Empties (s.withFloor .opened) := ⟨h.withFloor _, fun _ => id, fun _ => id⟩
  unfold State.endIntervention
  split
  · exact hopen
  · next c _ =>
    have hraised := hopen.raise (.resumed n c.priorityEnd)
    have happlied : s.Empties (((s.withFloor .opened).raise (.resumed n c.priorityEnd)).applyPriorityEnd c.priorityEnd) := by
      cases c.priorityEnd with
      | resume => exact hopen.raise _
      | clear => exact (hopen.raise _).trans (State.Seated.empties_endSpeakers (hopen.raise _).seated _)
    exact happlied.trans happlied.seated.empties_fill

/-- R106: the seat's grant ends, if it has one. -/
theorem State.Seated.empties_endSeat (h : s.Seated) (n : Nat) (r : Reason) :
    s.Empties (s.endSeat n r) ∧ ((s.seat n).place ≠ .waiting → ((s.endSeat n r).seat n).place = .idle) := by
  have hidle : ∀ c, ((s.release c n r).seat n).place = .idle := fun c => by rw [(s.release_place c n n r).1, if_pos rfl]
  unfold State.endSeat
  split
  · next hb =>
    refine ⟨.refl h, fun hw => ?_⟩
    have hlive : (s.seat n).place ≠ .live := fun hl => (h.live n).1 hl hb
    cases hp : (s.seat n).place with
    | idle => rfl
    | waiting => exact absurd hp hw
    | live => exact absurd hp hlive
  · next hb =>
    have hc := ((h.bound n _).1 hb).2
    have hend := (h.release hc r).empties_endIntervention n
    exact ⟨(h.empties_release hc r).trans hend, fun _ => hend.idle n (hidle _)⟩
  · next c _ hb =>
    have hc := ((h.bound n c).1 hb).2
    have hfill := (h.release hc r).empties_fill
    exact ⟨(h.empties_release hc r).trans hfill, fun _ => hfill.idle n (hidle _)⟩

/-- Seats that hold no channel leave the list, one after another. -/
theorem State.Seated.empties_removals (h : s.Seated) (r : Reason) {l : List Nat} (hl : ∀ n ∈ l, (s.seat n).place ≠ .live) :
    s.Empties (l.foldl (fun s n => s.removeWaiting n r) s) ∧
      ∀ n ∈ l, ((l.foldl (fun s n => s.removeWaiting n r) s).seat n).place = .idle := by
  induction l generalizing s with
  | nil => exact ⟨.refl h, by simp⟩
  | cons n l ih =>
    have hfirst := h.empties_removeWaiting (hl n List.mem_cons_self) r
    have hidle : ((s.removeWaiting n r).seat n).place = .idle := by rw [State.removeWaiting_seat, if_pos rfl]
    obtain ⟨hrest, hgone⟩ := ih hfirst.seated fun m hm => by
      rw [State.removeWaiting_seat]
      split
      · simp
      · exact hl m (List.mem_cons_of_mem n hm)
    refine ⟨hfirst.trans hrest, fun m hm => ?_⟩
    obtain rfl | hm := List.mem_cons.1 hm
    · exact hrest.idle m hidle
    · exact hgone m hm

/-- Grants of seats that do not wait end, one after another. -/
theorem State.Seated.empties_ends (h : s.Seated) (r : Reason) {l : List Nat} (hl : ∀ n ∈ l, (s.seat n).place ≠ .waiting) :
    s.Empties (l.foldl (fun s n => s.endSeat n r) s) ∧
      ∀ n ∈ l, ((l.foldl (fun s n => s.endSeat n r) s).seat n).place = .idle := by
  induction l generalizing s with
  | nil => exact ⟨.refl h, by simp⟩
  | cons n l ih =>
    obtain ⟨hfirst, hidle⟩ := h.empties_endSeat n r
    obtain ⟨hrest, hgone⟩ := ih hfirst.seated fun m hm => hfirst.unlisted m (hl m (List.mem_cons_of_mem n hm))
    refine ⟨hfirst.trans hrest, fun m hm => ?_⟩
    obtain rfl | hm := List.mem_cons.1 hm
    · exact hrest.idle m (hidle (hl m List.mem_cons_self))
    · exact hgone m hm

/-- R22, R32: the seats taken off the floor are off it when all of them have been. -/
theorem State.Seated.takeOff_idle (h : s.Seated) (l : List Nat) (r : Reason) :
    (s.takeOff l r).Seated ∧ ∀ n ∈ l, ((s.takeOff l r).seat n).place = .idle := by
  obtain ⟨hremoved, hgone⟩ := h.empties_removals r (l := l.filter fun n => (s.seat n).place == .waiting) fun n hn => by
    rw [List.mem_filter] at hn; simp [beq_iff_eq.1 hn.2]
  obtain ⟨hended, hover⟩ := hremoved.seated.empties_ends r (l := l.filter fun n => (s.seat n).place == .live) fun n hn => by
    rw [List.mem_filter] at hn
    exact hremoved.unlisted n (by simp [beq_iff_eq.1 hn.2])
  refine ⟨hended.seated, fun n hn => ?_⟩
  cases hp : (s.seat n).place with
  | idle => exact hended.idle n (hremoved.idle n hp)
  | waiting => exact hended.idle n (hgone n (List.mem_filter.2 ⟨hn, by simp [hp]⟩))
  | live => exact hover n (List.mem_filter.2 ⟨hn, by simp [hp]⟩)

/-! ### The seats that become absent (R32) -/

theorem State.loseSeats_cons (s : State) (n : Nat) (l : List Nat) :
    s.loseSeats (n :: l) = ((s.updSeat n Seat.lose).raise (.seatLost n)).loseSeats l := rfl

/-- Only seats and notices are written. -/
theorem State.loseSeats_eq (s : State) (l : List Nat) : s.loseSeats l =
    { s with seats := (s.loseSeats l).seats, notices := (s.loseSeats l).notices, overrun := (s.loseSeats l).overrun,
             lostCount := (s.loseSeats l).lostCount } := by
  induction l generalizing s with
  | nil => rfl
  | cons n l ih =>
    rw [State.loseSeats_cons]
    refine (ih _).trans ?_
    have hraise := State.sansNotices_eq ((s.updSeat n Seat.lose).sansNotices_raise (.seatLost n))
    generalize (s.updSeat n Seat.lose).raise (.seatLost n) = v at hraise ⊢
    generalize v.loseSeats l = w
    rw [hraise]
    cases n <;> rfl

/-- R32, R40, R158: each seat after the loss of the seats of a list, also a number that names none. -/
theorem State.loseSeats_seat (s : State) (l : List Nat) (m : Nat) :
    (s.loseSeats l).seat m = if m ∈ l then (s.seat m).lose else s.seat m := by
  induction l generalizing s with
  | nil => rfl
  | cons n l ih =>
    have hstep : (s.updSeat n Seat.lose).seat m = if m = n then (s.seat m).lose else s.seat m := by
      by_cases hm : m = n
      · subst hm
        rw [if_pos rfl]
        by_cases hr : 1 ≤ m ∧ m ≤ s.seats.length
        · exact s.seat_updSeat_same _ hr.1 hr.2
        · have ho : m = 0 ∨ s.seats.length < m := by omega
          rw [State.updSeat_out _ _ ho, State.seat_out _ ho]; rfl
      · rw [if_neg hm, State.seat_updSeat_ne _ _ hm]
    rw [State.loseSeats_cons, ih, State.seat_raise, hstep]
    by_cases hm : m = n <;> by_cases hl : m ∈ l <;> simp [hm, hl, Seat.lose]

theorem State.loseSeats_length (s : State) (l : List Nat) : (s.loseSeats l).seats.length = s.seats.length := by
  induction l generalizing s with
  | nil => rfl
  | cons n l ih => rw [State.loseSeats_cons, ih]; simp

theorem State.noticeView_loseSeats {l : List Nat} (h : t.noticeView = s.noticeView) :
    (t.loseSeats l).noticeView = (s.raiseAll (l.map Notice.seatLost)).noticeView := by
  induction l generalizing s t with
  | nil => exact h
  | cons n l ih =>
    have hstep : (t.updSeat n Seat.lose).noticeView = s.noticeView := by
      rw [← h]; cases n <;> rfl
    exact ih (State.noticeView_raise hstep _)

/-- R32: SEAT_LOST for each seat of the list, in its order. -/
theorem State.hasRaised_loseSeats {l : List Nat} (h : t.noticeView = s.noticeView) :
    s.HasRaised (t.loseSeats l) (l.map Notice.seatLost) := by
  have hview := State.noticeView_loseSeats (l := l) h
  simp only [State.noticeView, Prod.mk.injEq] at hview
  exact hview.2

/-- The seats due to be lost, absent and still on the floor. -/
def State.lossesMade (s : State) : State :=
  (s.setOwed { s.owed with losses := [] }).loseSeats (s.owed.losses.filter fun n => (s.seat n).present)

theorem exec_seatLost (s : State) :
    exec .seatLost s = .next (s.lossesMade.takeOff (s.owed.losses.filter fun n => (s.seat n).present) .seatLost) := rfl

theorem State.lossesMade_eq (s : State) : s.lossesMade =
    { s with seats := s.lossesMade.seats, notices := s.lossesMade.notices, overrun := s.lossesMade.overrun,
             lostCount := s.lossesMade.lostCount, owed := { s.owed with losses := [] } } := State.loseSeats_eq _ _

theorem State.lossesMade_seat (s : State) (m : Nat) :
    s.lossesMade.seat m = if m ∈ s.owed.losses.filter (fun n => (s.seat n).present) then (s.seat m).lose else s.seat m :=
  State.loseSeats_seat _ _ m

theorem State.hasRaised_lossesMade (s : State) :
    s.HasRaised s.lossesMade ((s.owed.losses.filter fun n => (s.seat n).present).map Notice.seatLost) :=
  State.hasRaised_loseSeats rfl

theorem State.lossesMade_place (s : State) (m : Nat) :
    (s.lossesMade.seat m).place = (s.seat m).place ∧ (s.lossesMade.seat m).bound = (s.seat m).bound := by
  rw [State.lossesMade_seat]
  split <;> exact ⟨rfl, rfl⟩

theorem State.Seated.lossesMade (h : s.Seated) : s.lossesMade.Seated := by
  have heq := s.lossesMade_eq
  refine h.of_view (State.loseSeats_length _ _) s.lossesMade_place (fun c => ?_) ?_ ?_
  · rw [heq]; exact ⟨Iff.rfl, rfl⟩
  · rw [heq]
  · rw [heq]

/-- R32, R40, R158: what the loss leaves of a seat, on the floor or off it. -/
theorem Seat.lost_of_frozen {x y : Seat} (h : y.frozen = x.lose.frozen) :
    y.present = false ∧ y.silence = 0 ∧ y.keys = Keys.reset ∧ y.armed = false ∧ y.mismatch = 0 ∧ y.pendingSense = none ∧
      y.flagged = x.flagged ∧ y.config = x.config := by
  cases y
  simp only [Seat.frozen, Seat.lose, Seat.mk.injEq] at h
  obtain ⟨rfl, rfl, rfl, rfl, rfl, -, -, -, rfl, rfl, rfl, -⟩ := h
  exact ⟨rfl, rfl, rfl, rfl, rfl, rfl, rfl, rfl⟩

end

/-- Settles O20: the lost seats become absent (`State.lossesMade_seat`), and what follows on the floor leaves every seat so but for its
place; a seat taken off the floor stays off it, since no End and no fill puts an idle seat on it (`State.Empties`). -/
theorem seatLostMakesAbsent : Obligations.SeatLostMakesAbsent := by
  refine ⟨fun s ha => ⟨_, exec_seatLost s, ?_, fun n hn hp => ?_, fun n hn => ?_, fun hidle => ?_⟩, fun s lost hlost => ?_⟩
  · have howed := State.frozen_owed (s.lossesMade.frozen_takeOff (s.owed.losses.filter fun n => (s.seat n).present) .seatLost)
    have hmade : s.lossesMade.owed.losses = [] := by rw [s.lossesMade_eq]
    exact (congrArg Owed.losses howed : _).trans hmade
  · have hmem : n ∈ s.owed.losses.filter fun n => (s.seat n).present := List.mem_filter.2 ⟨hn, hp⟩
    have hfrozen := State.frozen_seat (s.lossesMade.frozen_takeOff (s.owed.losses.filter fun n => (s.seat n).present) .seatLost) n
    rw [s.lossesMade_seat, if_pos hmem] at hfrozen
    obtain ⟨hseated, hoff⟩ := ha.seated.lossesMade.takeOff_idle (s.owed.losses.filter fun n => (s.seat n).present) .seatLost
    obtain ⟨h1, h2, h3, h4, h5, h6, h7, h8⟩ := Seat.lost_of_frozen hfrozen
    exact ⟨h1, h2, h3, h4, h5, h6, h7, h8, hoff n hmem, hseated.not_live (by simp [hoff n hmem])⟩
  · have hmem : n ∉ s.owed.losses.filter fun n => (s.seat n).present := fun h => hn (List.mem_of_mem_filter h)
    have hfrozen := State.frozen_seat (s.lossesMade.frozen_takeOff (s.owed.losses.filter fun n => (s.seat n).present) .seatLost) n
    rw [s.lossesMade_seat, if_neg hmem] at hfrozen
    exact ⟨(congrArg Seat.present hfrozen : _), (congrArg Seat.keys hfrozen : _)⟩
  · rw [State.takeOff_of_idle fun n hn => (s.lossesMade_place n).1.trans (hidle n (List.mem_of_mem_filter hn))]
    exact ⟨s.hasRaised_lossesMade, s.lossesMade_eq⟩
  · subst hlost
    refine ⟨s.lossesMade, s.lossesMade_eq, s.hasRaised_lossesMade, fun n => ⟨fun hn => ?_, fun hn => ?_⟩, ?_⟩
    · rw [s.lossesMade_seat, if_pos hn]; rfl
    · rw [s.lossesMade_seat, if_neg hn]
    · rw [exec_seatLost, State.takeOff]
      simp only [s.lossesMade_place]

end Sys2Proof.Machine
end

/-! # Agenda and floor contexts: the agreement of the floor, which every step keeps, and what STAGE_ITEM and a raised notice do -/

section
/-! ## The floor state beside the seats, channels and lists (R56, R72, R102, R105, R123)

`State.FloorAgrees` is `State.Seated` with what the floor state says of the agenda, of channel P and of the lists, and with the timers'
place on LIVE channels. It is kept by itself: `State.Orderly` asks more of a state, that every seat on the floor is fit for its place,
which a state that only agrees need not give. -/

namespace Sys2Proof.Machine

/-- R102, R105: the record `r` of channel `c` has a timer and a warned mark only while LIVE, and channel P has no timer. -/
structure Channel.Timed (r : Channel) (c : Chan) : Prop where
  idle : r.state ≠ .live → r.remaining = none ∧ r.warned = false
  priority : c = .p → r.remaining = none

/-- R56, R72, R123: the floor state agrees with the agenda queue, with channel P and with the two lists, and timers run on LIVE ordinary
channels alone. -/
structure State.Governed (s : State) : Prop where
  agenda : s.agenda.length ≤ 2
  closed : s.floor = .closed ↔ s.agenda = []
  held : s.floor = .held ↔ (s.chan .p).state = .live
  empty : s.floor = .closed → s.waiting = [] ∧ s.speakers = []
  timed : ∀ c, (s.chan c).Timed c

section
variable {s t : State}

theorem State.FloorAgrees.governed (h : s.FloorAgrees) : s.Governed := by
  refine ⟨h.agenda, h.closed, h.held, h.empty, fun c => ⟨fun hl => ((h.channels c (mem_allChans c)).2 hl).2, ?_⟩⟩
  rintro rfl
  exact h.untimed

/-- A seat on the floor is one of the 200. -/
theorem State.Seated.range (h : s.Seated) {n : Nat} (hn : (s.seat n).place ≠ .idle) : n ∈ seatNumbers := by
  by_contra hout
  have hlen := h.seats
  rw [mem_seatNumbers] at hout
  exact hn (by rw [State.seat_out s (by omega)]; rfl)

theorem State.Seated.range_of_seat (h : s.Seated) {c : Chan} {n : Nat} (hc : (s.chan c).seat = some n) : n ∈ seatNumbers :=
  h.range (by rw [(h.live n).2 (by simp [h.bound_of_seat hc])]; simp)

theorem State.Seated.floorAgrees (h : s.Seated) (hg : s.Governed) : s.FloorAgrees where
  seats := h.seats
  agenda := hg.agenda
  closed := hg.closed
  held := hg.held
  untimed := (hg.timed .p).priority rfl
  places n _ := ⟨h.live n, h.listed n, fun c _ => h.bound n c⟩
  channels c _ := by
    refine ⟨fun hl => ?_, fun hl => ⟨by_contra fun hs => hl ((h.held c).2 hs), (hg.timed c).idle hl⟩⟩
    obtain ⟨n, hn⟩ := Option.ne_none_iff_exists'.1 ((h.held c).1 hl)
    exact ⟨n, h.range_of_seat hn, hn⟩
  speakers c hc n _ := (h.speaks { chan := c, seat := n }).trans (and_iff_right (mem_ordinaryChans.1 hc))
  speakersOnce := ⟨h.speakersOnce, fun e he => by
    obtain ⟨ho, -, hs⟩ := (h.speaks e).1 he
    exact ⟨mem_ordinaryChans.2 ho, h.range_of_seat hs⟩⟩
  waitingOnce := ⟨h.waitingOnce, fun e he => h.range (by simp [(h.listed e.seat).2 (List.mem_map_of_mem he)])⟩
  empty := hg.empty

theorem Chan.ne_p_of_isOrdinary {c : Chan} (h : c.isOrdinary = true) : c ≠ .p := by rintro rfl; cases h

/-- A speaker holds its channel, an ordinary one. -/
theorem State.Seated.speaker (h : s.Seated) {e : Speaker} (he : e ∈ s.speakers) :
    (s.chan e.chan).seat = some e.seat ∧ e.chan ≠ .p := by
  obtain ⟨ho, -, hs⟩ := (h.speaks e).1 he
  exact ⟨hs, Chan.ne_p_of_isOrdinary ho⟩

theorem State.agenda_of_frozen (h : t.frozen = s.frozen) : t.agenda = s.agenda := (congrArg (fun u : State => u.agenda) h : _)

/-- No operation of the floor that keeps the agreement closes a floor or opens a closed one. -/
theorem State.FloorAgrees.not_closed (hs : s.FloorAgrees) (ht : t.FloorAgrees) (hf : t.frozen = s.frozen) (ho : s.floor ≠ .closed) :
    t.floor ≠ .closed := by
  rwa [ne_eq, ht.closed, State.agenda_of_frozen hf, ← hs.closed]

/-- An operation of the floor that leaves the floor state and whether channel P is LIVE. -/
theorem State.FloorAgrees.of_frozen (h : s.FloorAgrees) (hf : t.frozen = s.frozen) (ht : t.Seated) (hfloor : t.floor = s.floor)
    (hp : (t.chan .p).state = .live ↔ (s.chan .p).state = .live) (htimed : ∀ c, (t.chan c).Timed c)
    (hempty : s.floor = .closed → t.waiting = [] ∧ t.speakers = []) : t.FloorAgrees := by
  have hagenda := State.agenda_of_frozen hf
  refine ht.floorAgrees ⟨?_, ?_, ?_, ?_, htimed⟩
  · rw [hagenda]; exact h.agenda
  · rw [hagenda, hfloor]; exact h.closed
  · rw [hfloor, hp]; exact h.held
  · rw [hfloor]; exact hempty

/-- An update of seats that leaves every place, and of what the floor does not look at. -/
theorem State.FloorAgrees.of_places (h : s.FloorAgrees) (hlen : t.seats.length = s.seats.length)
    (hseat : ∀ n, (t.seat n).place = (s.seat n).place ∧ (t.seat n).bound = (s.seat n).bound)
    (e1 : t.channels = s.channels := by rfl) (e2 : t.agenda = s.agenda := by rfl) (e3 : t.floor = s.floor := by rfl)
    (e4 : t.waiting = s.waiting := by rfl) (e5 : t.speakers = s.speakers := by rfl) : t.FloorAgrees := by
  have hchan : ∀ c, t.chan c = s.chan c := fun c => by rw [State.chan, e1]; rfl
  obtain ⟨h1, h2, h3, h4, h5⟩ := h.governed
  refine (h.seated.of_view hlen hseat (by simp [hchan]) e4 e5).floorAgrees ⟨?_, ?_, ?_, ?_, ?_⟩
  · rw [e2]; exact h1
  · rw [e2, e3]; exact h2
  · rw [e3, hchan]; exact h3
  · rw [e3, e4, e5]; exact h4
  · simpa only [hchan] using h5

theorem State.FloorAgrees.updSeat (h : s.FloorAgrees) (n : Nat) {f : Seat → Seat} (hp : (f (s.seat n)).place = (s.seat n).place)
    (hb : (f (s.seat n)).bound = (s.seat n).bound) : (s.updSeat n f).FloorAgrees := by
  refine h.of_places (by simp) (fun m => ?_) (by simp) (by simp) (by simp) (by simp) (by simp)
  obtain he | ⟨rfl, he⟩ := s.seat_updSeat_cases n m f <;> rw [he]
  · exact ⟨rfl, rfl⟩
  · exact ⟨hp, hb⟩

theorem State.FloorAgrees.mapSeats (h : s.FloorAgrees) {f : Seat → Seat} (e : t.seats = s.seats.map f)
    (hf : ∀ x : Seat, (f x).place = x.place ∧ (f x).bound = x.bound) (e1 : t.channels = s.channels := by rfl)
    (e2 : t.agenda = s.agenda := by rfl) (e3 : t.floor = s.floor := by rfl) (e4 : t.waiting = s.waiting := by rfl)
    (e5 : t.speakers = s.speakers := by rfl) : t.FloorAgrees := by
  refine h.of_places (by simp [e]) (fun n => ?_) e1 e2 e3 e4 e5
  obtain he | he := State.seat_map_cases e n <;> rw [he]
  · exact ⟨rfl, rfl⟩
  · exact hf _

theorem State.FloorAgrees.raise (h : s.FloorAgrees) (x : Notice) : (s.raise x).FloorAgrees :=
  h.of_same (by simp) (by simp) (by simp) (by simp) (by simp) (by simp)

theorem State.FloorAgrees.raiseAll (h : s.FloorAgrees) (l : List Notice) : (s.raiseAll l).FloorAgrees := by
  induction l generalizing s with
  | nil => exact h
  | cons x l ih => exact ih (h.raise x)

theorem State.FloorAgrees.reply (h : s.FloorAgrees) (tag : Byte) (b : ReplyBody) : (s.reply tag b).FloorAgrees := h.of_same

theorem State.FloorAgrees.foldl {α : Type} {f : State → α → State} (hf : ∀ s a, s.FloorAgrees → (f s a).FloorAgrees) (l : List α)
    (h : s.FloorAgrees) : (l.foldl f s).FloorAgrees := by
  induction l generalizing s with
  | nil => exact h
  | cons a l ih => exact ih (hf s a h)

/-- A channel's record replaced by one that binds the same seat. -/
theorem State.FloorAgrees.setChan (h : s.FloorAgrees) {c : Chan} {r : Channel} (h1 : r.state = .live ↔ (s.chan c).state = .live)
    (h2 : r.seat = (s.chan c).seat) (h3 : r.Timed c) : (s.setChan c r).FloorAgrees := by
  have hchan : ∀ d, (s.setChan c r).chan d = if d = c then r else s.chan d := fun d => by
    split
    · next hd => rw [hd, State.chan_setChan_same]
    · next hd => rw [State.chan_setChan_ne _ _ hd]
  have hsame : ∀ d, (((s.setChan c r).chan d).state = .live ↔ (s.chan d).state = .live) ∧
      ((s.setChan c r).chan d).seat = (s.chan d).seat := fun d => by
    rw [hchan]
    split
    · next hd => rw [hd]; exact ⟨h1, h2⟩
    · exact ⟨Iff.rfl, rfl⟩
  refine h.of_frozen (by simp) (h.seated.of_view rfl (by simp) hsame rfl rfl) rfl (hsame .p).1 (fun d => ?_) h.empty
  rw [hchan]
  split
  · next hd => rw [hd]; exact h3
  · exact h.governed.timed d

/-- R102: a LIVE ordinary channel may have any timer and any warned mark. -/
theorem State.FloorAgrees.retime (h : s.FloorAgrees) {c : Chan} (hl : (s.chan c).state = .live) (ho : c ≠ .p) {r : Channel}
    (hstate : r.state = (s.chan c).state := by rfl) (hseat : r.seat = (s.chan c).seat := by rfl) : (s.setChan c r).FloorAgrees :=
  h.setChan (by rw [hstate]) hseat ⟨fun hn => absurd (hstate.trans hl) hn, fun hp => absurd hp ho⟩

/-! ### The waiting list, Grant and End -/

theorem State.FloorAgrees.removeWaiting (h : s.FloorAgrees) {n : Nat} (hn : (s.seat n).place ≠ .live) (r : Reason) :
    (s.removeWaiting n r).FloorAgrees := by
  obtain ⟨hw, hs, hfl, hc, -⟩ := s.removeWaiting_lists n r
  have hchan : ∀ c, (s.removeWaiting n r).chan c = s.chan c := fun c => by rw [State.chan, hc]; rfl
  refine h.of_frozen (by simp) (h.seated.removeWaiting hn r) hfl (by rw [hchan]) (fun c => ?_) fun hf => ?_
  · rw [hchan]; exact h.governed.timed c
  · rw [hw, hs, (h.empty hf).1]; exact ⟨rfl, (h.empty hf).2⟩

theorem State.FloorAgrees.insertWaiting (h : s.FloorAgrees) (ho : s.floor ≠ .closed) {n : Nat} (hr : n ∈ seatNumbers)
    (hn : (s.seat n).place = .idle) (k : Nat) {i : Nat} (hi : i ≤ s.waiting.length) : (s.insertWaiting n k i).FloorAgrees := by
  obtain ⟨-, -, hfl, hc, -⟩ := s.insertWaiting_lists n k i
  have hchan : ∀ c, (s.insertWaiting n k i).chan c = s.chan c := fun c => by rw [State.chan, hc]; rfl
  refine h.of_frozen (by simp) (h.seated.insertWaiting hr hn k hi) hfl (by rw [hchan]) (fun c => ?_) fun hf => absurd hf ho
  rw [hchan]; exact h.governed.timed c

/-- R105: a Grant of channel P is untimed. -/
theorem State.grantTime_priority (s : State) (n : Nat) : s.grantTime .p n = none := by
  unfold State.grantTime
  split <;> rfl

theorem State.timed_grant (h : ∀ c, (s.chan c).Timed c) (c : Chan) (n : Nat) (l : Bool) (d : Chan) :
    ((s.grant c n l).chan d).Timed d := by
  by_cases hd : d = c
  · subst hd
    rw [State.grant_chan_same]
    exact ⟨fun hl => absurd rfl hl, by rintro rfl; exact s.grantTime_priority n⟩
  · rw [State.grant_chan_ne _ _ _ hd]; exact h d

theorem State.timed_release (h : ∀ c, (s.chan c).Timed c) (c : Chan) (n : Nat) (r : Reason) (d : Chan) :
    ((s.release c n r).chan d).Timed d := by
  by_cases hd : d = c
  · subst hd
    rw [State.release_chan_same]
    exact ⟨fun _ => ⟨rfl, rfl⟩, fun _ => rfl⟩
  · rw [State.release_chan_ne _ _ _ hd]; exact h d

/-- R104: a Grant where there is room, to a seat that is not LIVE and leaves the list if it waits. -/
theorem State.FloorAgrees.grant (h : s.FloorAgrees) (ho : s.floor ≠ .closed) {n : Nat} (hr : n ∈ seatNumbers)
    (hn : (s.seat n).place ≠ .live) {c : Chan} (hroom : s.room = some c) (l : Bool) : ((s.leaveSilently n).grant c n l).FloorAgrees := by
  obtain ⟨hc, hfree, -⟩ := State.room_free hroom
  obtain ⟨-, -, hfl, -⟩ := (s.leaveSilently n).grant_lists c n l
  have hp : ((s.leaveSilently n).grant c n l).chan .p = s.chan .p := by
    rw [State.grant_chan_ne _ _ _ (Chan.ne_p_of_isOrdinary hc).symm, State.chan_leaveSilently]
  exact h.of_frozen (by simp) (h.seated.grant hr hn (by simp [hfree]) l) hfl (by rw [hp])
    (State.timed_grant (s := s.leaveSilently n) h.governed.timed c n l) fun hf => absurd hf ho

theorem State.FloorAgrees.grantIdle (h : s.FloorAgrees) (ho : s.floor ≠ .closed) {n : Nat} (hr : n ∈ seatNumbers)
    (hn : (s.seat n).place = .idle) {c : Chan} (hroom : s.room = some c) (l : Bool) : (s.grant c n l).FloorAgrees := by
  have hgrant := h.grant ho hr (by simp [hn]) hroom l
  rwa [State.leaveSilently_not_listed (h.seated.not_listed (by simp [hn]))] at hgrant

/-- R107: the End of an ordinary grant, without its fill. -/
theorem State.FloorAgrees.release (h : s.FloorAgrees) {c : Chan} {n : Nat} (hc : (s.chan c).seat = some n) (ho : c ≠ .p) (r : Reason) :
    (s.release c n r).FloorAgrees := by
  obtain ⟨hw, hs, hfl⟩ := s.release_lists c n r
  refine h.of_frozen (by simp) (h.seated.release hc r) hfl (by rw [State.release_chan_ne _ _ _ ho.symm])
    (State.timed_release h.governed.timed c n r) fun hf => ?_
  rw [hw, hs, (h.empty hf).1, (h.empty hf).2]
  simp

/-- R107, R131: the End of channel P, with the floor opened again. -/
theorem State.FloorAgrees.releasePriority (h : s.FloorAgrees) {n : Nat} (hn : (s.chan .p).seat = some n) (r : Reason) :
    ((s.release .p n r).withFloor .opened).FloorAgrees := by
  have hheld : s.floor = .held := h.held.2 ((h.seated.held .p).2 (by simp [hn]))
  have hagenda : (s.release .p n r).agenda = s.agenda := State.agenda_of_frozen (by simp)
  refine ((h.seated.release hn r).withFloor .opened).floorAgrees ⟨?_, ?_, ?_, fun hf => (nomatch hf),
    State.timed_release h.governed.timed .p n r⟩
  · exact (congrArg List.length hagenda).trans_le h.agenda
  · refine ⟨fun hf => (nomatch hf), fun ha => ?_⟩
    have hclosed := h.closed.2 (hagenda.symm.trans ha)
    rw [hheld] at hclosed
    cases hclosed
  · refine ⟨fun hf => (nomatch hf), fun hl => ?_⟩
    have hstate : ((s.release .p n r).chan .p).state = .live := hl
    rw [State.release_chan_same] at hstate
    cases hstate

/-- R125: a Grant of channel P to a seat that is IDLE, with the floor made HELD. -/
theorem State.FloorAgrees.grantPriority (h : s.FloorAgrees) (ho : s.floor ≠ .closed) {n : Nat} (hr : n ∈ seatNumbers)
    (hn : (s.seat n).place = .idle) (hp : (s.chan .p).state ≠ .live) (l : Bool) : ((s.grant .p n l).withFloor .held).FloorAgrees := by
  have hgrant := h.seated.grant hr (by simp [hn]) hp l
  rw [State.leaveSilently_not_listed (h.seated.not_listed (by simp [hn]))] at hgrant
  have hagenda : (s.grant .p n l).agenda = s.agenda := State.agenda_of_frozen (by simp)
  refine (hgrant.withFloor .held).floorAgrees ⟨?_, ?_, ?_, fun hf => (nomatch hf), State.timed_grant h.governed.timed .p n l⟩
  · exact (congrArg List.length hagenda).trans_le h.agenda
  · exact ⟨fun hf => (nomatch hf), fun ha => absurd (h.closed.2 (hagenda.symm.trans ha)) ho⟩
  · refine iff_of_true rfl ?_
    show ((s.grant .p n l).chan .p).state = .live
    rw [State.grant_chan_same]

end

end Sys2Proof.Machine
end

section
/-! ## The operations of the floor keep its agreement -/

namespace Sys2Proof.Machine

section
variable {s : State}

/-! ### Fill (R88, R90) -/

theorem State.FloorAgrees.grantHeads (k : Nat) (h : s.FloorAgrees) (ho : s.floor ≠ .closed) : (State.grantHeads k s).FloorAgrees := by
  induction k generalizing s with
  | zero => exact h
  | succ k ih =>
    unfold State.grantHeads
    split
    · next e rest c hw hroom =>
      have hwait : (s.seat e.seat).place = .waiting := (h.seated.listed _).2 (by simp [hw])
      have hgrant := h.grant ho (n := e.seat) (h.seated.range (by simp [hwait])) (by simp [hwait]) hroom true
      have hopen := h.not_closed hgrant (by simp) ho
      rw [h.seated.leaveSilently_head hw] at hgrant hopen
      exact ih hgrant hopen
    · exact h

/-- R88: only an OPEN floor is filled. -/
theorem State.opened_of_fills (h : s.fills = true) : s.floor = .opened := by
  unfold State.fills at h
  split at h
  · cases h
  · simp only [Bool.and_eq_true, beq_iff_eq] at h
    exact h.1

theorem State.FloorAgrees.fill (h : s.FloorAgrees) : s.fill.FloorAgrees := by
  unfold State.fill
  split
  · next hf => exact h.grantHeads _ (by simp [State.opened_of_fills hf])
  · exact h

/-! ### Ends with their completion (R109, R131) -/

theorem State.FloorAgrees.endOrdinary (h : s.FloorAgrees) {c : Chan} {n : Nat} (hc : (s.chan c).seat = some n) (ho : c ≠ .p)
    (r : Reason) : (s.endOrdinary c n r).FloorAgrees := (h.release hc ho r).fill

/-- Grants of different ordinary channels, ended one after another, each with its fill. -/
theorem State.FloorAgrees.endGrants (h : s.FloorAgrees) (r : Reason) {l : List Speaker}
    (hl : ∀ e ∈ l, (s.chan e.chan).seat = some e.seat ∧ e.chan ≠ .p) (hnd : (l.map Speaker.chan).Nodup) :
    (l.foldl (fun s e => s.endOrdinary e.chan e.seat r) s).FloorAgrees := by
  induction l generalizing s with
  | nil => exact h
  | cons e l ih =>
    rw [List.map_cons, List.nodup_cons] at hnd
    obtain ⟨hc, ho⟩ := hl e List.mem_cons_self
    refine ih (h.endOrdinary hc ho r) (fun x hx => ?_) hnd.2
    obtain ⟨hxc, hxo⟩ := hl x (List.mem_cons_of_mem e hx)
    have hlive : (s.chan x.chan).state = .live := (h.seated.held _).2 (by simp [hxc])
    have hne : x.chan ≠ e.chan := fun he => hnd.1 (he ▸ List.mem_map_of_mem hx)
    rw [State.endOrdinary_chan_ne s e.seat r hne (.inr (by simp [hlive]))]
    exact ⟨hxc, hxo⟩

theorem State.FloorAgrees.endSpeakers (h : s.FloorAgrees) (r : Reason) : (s.endSpeakers r).FloorAgrees :=
  h.endGrants r (fun _ => h.seated.speaker) h.seated.speakersOnce

/-- R131: the floor opened again, the end of the intervention is completed. -/
theorem State.FloorAgrees.endIntervention (h : (s.withFloor .opened).FloorAgrees) (n : Nat) : (s.endIntervention n).FloorAgrees := by
  unfold State.endIntervention
  split
  · exact h
  · next c _ =>
    refine State.FloorAgrees.fill ?_
    cases c.priorityEnd with
    | resume => exact h.raise _
    | clear => exact (h.raise _).endSpeakers _

theorem State.FloorAgrees.endPriority (h : s.FloorAgrees) {n : Nat} (hn : (s.chan .p).seat = some n) (r : Reason) :
    (s.endPriority n r).FloorAgrees := (h.releasePriority hn r).endIntervention n

theorem State.FloorAgrees.endSeat (h : s.FloorAgrees) (n : Nat) (r : Reason) : (s.endSeat n r).FloorAgrees := by
  unfold State.endSeat
  split
  · exact h
  · next hb => exact h.endPriority ((h.seated.bound n _).1 hb).2 r
  · next c hne hb => exact h.endOrdinary ((h.seated.bound n c).1 hb).2 hne r

theorem State.FloorAgrees.endHolder (h : s.FloorAgrees) (r : Reason) : (s.endHolder r).FloorAgrees := by
  unfold State.endHolder
  split
  · next n _ hn => exact h.endPriority hn r
  · exact h

/-! ### Seats taken off the floor (R22, R32, R76) -/

/-- Seats that hold no channel leave the list, one after another. -/
theorem State.FloorAgrees.removeSeats (h : s.FloorAgrees) {l : List Nat} (hl : ∀ n ∈ l, (s.seat n).place ≠ .live) (r : Reason) :
    (l.foldl (fun s n => s.removeWaiting n r) s).FloorAgrees := by
  induction l generalizing s with
  | nil => exact h
  | cons n l ih =>
    refine ih (h.removeWaiting (hl n List.mem_cons_self) r) fun m hm => ?_
    rw [State.removeWaiting_seat]
    split
    · simp
    · exact hl m (List.mem_cons_of_mem n hm)

/-- Entries of the list leave it, in any order. -/
theorem State.FloorAgrees.removeList (h : s.FloorAgrees) (r : Reason) {l : List WaitEntry} (hl : ∀ e ∈ l, e ∈ s.waiting) :
    (s.removeList r l).FloorAgrees := by
  have hfold := h.removeSeats (l := l.map WaitEntry.seat) (fun n hn => by
    obtain ⟨e, he, rfl⟩ := List.mem_map.1 hn
    simp [(h.seated.listed e.seat).2 (List.mem_map_of_mem (hl e he))]) r
  rwa [List.foldl_map] at hfold

theorem State.FloorAgrees.clearWaiting (h : s.FloorAgrees) (r : Reason) : (s.clearWaiting r).FloorAgrees := h.removeList r fun _ => id

theorem State.FloorAgrees.takeOff (h : s.FloorAgrees) (l : List Nat) (r : Reason) : (s.takeOff l r).FloorAgrees := by
  have hremoved := h.removeSeats (l := l.filter fun n => (s.seat n).place == .waiting) (fun n hn => by
    rw [List.mem_filter] at hn; simp [beq_iff_eq.1 hn.2]) r
  exact State.FloorAgrees.foldl (fun _ n hu => hu.endSeat n r) _ hremoved

theorem State.FloorAgrees.cancelFloor (h : s.FloorAgrees) : s.cancelFloor.FloorAgrees := (h.clearWaiting _).endSpeakers _

theorem State.FloorAgrees.breakFloor (h : s.FloorAgrees) : s.breakFloor.FloorAgrees :=
  ((h.clearWaiting _).endSpeakers _).endHolder _

/-! ### Requests (R75, R81 to R86) -/

section
variable (h : s.FloorAgrees) (ho : s.floor ≠ .closed) {n : Nat} (hr : n ∈ seatNumbers) (hn : (s.seat n).place = .idle)
include h ho hr hn

theorem State.FloorAgrees.joinList (c : Context) (k : Nat) : (s.joinList c n k).FloorAgrees := by
  unfold State.joinList
  split
  · exact h.raise _
  · split
    · exact h.insertWaiting ho hr hn k (s.joinIndex_le c n)
    · exact h.raise _

/-- R85: the requester at the head of the list, the tail entry gone first where the list is full. -/
theorem State.FloorAgrees.insertHead (c : Context) (k : Nat) : (s.insertHead c n k).FloorAgrees := by
  unfold State.insertHead
  split
  · exact h.insertWaiting ho hr hn k (Nat.zero_le _)
  · split
    · exact h.insertWaiting ho hr hn k (Nat.zero_le _)
    · next e hlast =>
      have hwait : (s.seat e.seat).place = .waiting := (h.seated.listed _).2 (List.mem_map_of_mem (List.mem_of_getLast? hlast))
      have hne : n ≠ e.seat := by rintro rfl; rw [hn] at hwait; cases hwait
      have hgone := h.removeWaiting (n := e.seat) (by simp [hwait]) .truncated
      refine hgone.insertWaiting (h.not_closed hgone (by simp) ho) hr ?_ k (Nat.zero_le _)
      rw [State.removeWaiting_seat_ne _ _ hne, hn]

theorem State.FloorAgrees.serveDisplacer (c : Context) (k : Nat) : (s.serveDisplacer c n k).FloorAgrees := by
  unfold State.serveDisplacer
  split
  · next hroom => exact (h.grantIdle ho hr hn hroom false).fill
  · exact (h.insertHead ho hr hn c k).fill

theorem State.FloorAgrees.displace (c : Context) (k : Nat) : (s.displace c n k).FloorAgrees := by
  unfold State.displace
  split
  · exact h.joinList ho hr hn c k
  · next e hfind =>
    obtain ⟨hc, hp⟩ := h.seated.speaker (List.mem_of_find?_eq_some hfind)
    have hrel := h.release hc hp .displaced
    split
    · exact h.raise _
    · refine hrel.serveDisplacer (h.not_closed hrel (by simp) ho) hr ?_ c k
      rw [(s.release_place _ _ _ _).1, hn, ite_self]

theorem State.FloorAgrees.requestOpen (c : Context) (k : Nat) : (s.requestOpen c n k).FloorAgrees := by
  unfold State.requestOpen
  split
  · next hroom => exact h.grantIdle ho hr hn hroom false
  · exact h.raise _
  · next hroom =>
    split
    · exact h.grantIdle ho hr hn hroom false
    · exact h.joinList ho hr hn c k
  · exact h.joinList ho hr hn c k
  · exact h.joinList ho hr hn c k
  · next hroom => exact h.grantIdle ho hr hn hroom false
  · exact h.displace ho hr hn c k

end

/-- R81 to R83: only an eligible seat's request on a floor that is not CLOSED gets past its denial. -/
theorem State.FloorAgrees.judgeRequest (h : s.FloorAgrees) {n : Nat} (hn : (s.seat n).place = .idle) (k : Nat) :
    (s.judgeRequest n k).FloorAgrees := by
  unfold State.judgeRequest
  split
  · exact h.raise _
  next ho =>
  split
  · exact h.raise _
  split
  · next he =>
    have hr := State.range_of_eligible h.seats he
    split
    · exact h
    · split
      · unfold State.requestHeld
        split
        · exact h.raise _
        · exact h.joinList ho hr hn _ k
      · exact h.requestOpen ho hr hn _ k
  · exact h.raise _

/-! ### Withdraw, next, cancel and the priority intervention (R87, R90 to R92, R124 to R131) -/

theorem State.FloorAgrees.removeWaiting_of_waiting (h : s.FloorAgrees) {n : Nat} (hn : (s.seat n).place = .waiting) (r : Reason) :
    (s.removeWaiting n r).FloorAgrees := h.removeWaiting (by simp [hn]) r

theorem State.FloorAgrees.judgeWithdraw (h : s.FloorAgrees) (n : Nat) : (s.judgeWithdraw n).FloorAgrees := by
  unfold State.judgeWithdraw
  split
  · exact h
  · next hn => exact h.removeWaiting_of_waiting hn _
  · exact h.endSeat n _

theorem State.FloorAgrees.takeNext (h : s.FloorAgrees) (ho : s.floor ≠ .closed) : s.takeNext.FloorAgrees := by
  unfold State.takeNext
  split
  · exact h
  · split <;> [exact h.grantHeads _ ho; exact h.fill; exact h.fill; exact h]

theorem State.FloorAgrees.judgeNext (h : s.FloorAgrees) : s.judgeNext.FloorAgrees := by
  unfold State.judgeNext
  split
  · next ho => exact h.takeNext (by simp [ho])
  · exact h

theorem State.FloorAgrees.judgeCancel (h : s.FloorAgrees) : s.judgeCancel.FloorAgrees := by
  unfold State.judgeCancel
  split <;> [exact h; exact h.cancelFloor]

theorem State.FloorAgrees.escalate (h : s.FloorAgrees) (n : Nat) : (s.escalate n).FloorAgrees := by
  unfold State.escalate
  split
  · exact h
  · next hn => exact h.removeWaiting_of_waiting hn _
  · exact h.endSeat n _

/-- R125: a chair that has given up its place is IDLE, and channel P, which it did not hold, stands. -/
theorem State.Seated.escalate_idle (h : s.Seated) {n : Nat} (hp : (s.chan .p).state ≠ .live) :
    ((s.escalate n).seat n).place = .idle ∧ (s.escalate n).chan .p = s.chan .p := by
  unfold State.escalate
  split
  · next hn => exact ⟨hn, rfl⟩
  · refine ⟨by rw [State.removeWaiting_seat, if_pos rfl], ?_⟩
    rw [State.chan, (s.removeWaiting_lists n _).2.2.2.1]; rfl
  · next hn =>
    obtain ⟨c, hc⟩ := Option.ne_none_iff_exists'.1 ((h.live n).1 hn)
    obtain ⟨hl, hs⟩ := (h.bound n c).1 hc
    have hne : c ≠ .p := by rintro rfl; exact hp hl
    have hend : s.endSeat n .escalated = s.endOrdinary c n .escalated := State.endSeat_of_ordinary _ hc hne
    rw [hend]
    exact ⟨h.endOrdinary_idle hs _, s.endOrdinary_chan_ne n _ hne.symm (.inl rfl)⟩

theorem State.FloorAgrees.judgePriorityHeld (h : s.FloorAgrees) (n : Nat) : (s.judgePriorityHeld n).FloorAgrees := by
  unfold State.judgePriorityHeld
  split
  · next hc =>
    obtain ⟨ho, hp, he⟩ := hc
    have hesc := h.escalate n
    obtain ⟨hidle, hchan⟩ := h.seated.escalate_idle (n := n) (by simp [hp])
    have hopen := h.not_closed hesc (by simp) (by simp [ho])
    exact (hesc.grantPriority hopen (State.range_of_entitledChair h.seats he) hidle (by simp [hchan, hp]) false).raise _
  · exact h

theorem State.FloorAgrees.judgePriorityReleased (h : s.FloorAgrees) (n : Nat) : (s.judgePriorityReleased n).FloorAgrees := by
  unfold State.judgePriorityReleased State.isHolder
  split
  · next hh =>
    simp only [Bool.and_eq_true, beq_iff_eq] at hh
    exact h.endPriority hh.2 _
  · exact h

/-- R81 to R131: the answer to any key action; a request comes of a seat that is IDLE. -/
theorem State.FloorAgrees.answer (h : s.FloorAgrees) (a : KeyAct) {n : Nat} (hn : a = .request → (s.seat n).place = .idle) (k : Nat) :
    (s.answer a n k).FloorAgrees := by
  cases a with
  | request => exact h.judgeRequest (hn rfl) k
  | withdraw => exact h.judgeWithdraw n
  | next => exact h.judgeNext
  | cancel => exact h.judgeCancel
  | priorityHeld => exact h.judgePriorityHeld n
  | priorityReleased => exact h.judgePriorityReleased n

/-! ### Presentation (R46, R51, R79) -/

theorem State.FloorAgrees.keepSlots (h : s.FloorAgrees) (k : Nat) (rest : List KeySlot) : (s.keepSlots k rest).FloorAgrees := h.of_same

theorem State.FloorAgrees.spend (h : s.FloorAgrees) (k : KeySlot) : (s.spend k).FloorAgrees := by
  unfold State.spend
  split <;> [exact h.updSeat _ rfl rfl; exact h]

theorem State.FloorAgrees.closePresentation (h : s.FloorAgrees) : s.closePresentation.FloorAgrees := by
  unfold State.closePresentation
  split <;> [exact h.of_same; exact h]

/-- R43, R44, R51: where a request is answered, its seat is IDLE: the slots spent before it changed no TALK edge. -/
theorem State.idle_of_request {before : List KeySlot} {k : KeySlot} {n : Nat} {a b : KeyAct} (hof : k.isOf n a = true)
    (hreach : s.canReach a k = true) (hb : (before.foldl State.spend s).deriveSlot k = some b) (ha : a = .request) :
    ((before.foldl State.spend s).seat n).place = .idle := by
  subst ha
  simp only [KeySlot.isOf, Bool.and_eq_true, beq_iff_eq] at hof
  obtain ⟨rfl, hcomes⟩ := hof
  obtain ⟨press, hk⟩ : ∃ press, k.event = .talk press := by
    revert hcomes
    cases k.event <;> simp [KeyAct.comesFrom]
  have hs := State.deriveSlot_spendAll_talk before s k hk
  rw [hb] at hs
  have hreq : b = .request := by simpa [State.canReach, ← hs] using hreach
  exact Seat.derive_request (t := (before.foldl State.spend s).seat k.seat) (e := k.event) (hreq ▸ hb)

theorem State.FloorAgrees.present (h : s.FloorAgrees) (n : Nat) (a : KeyAct) {answer : State → Nat → State}
    (ha : ∀ (u : State) (k : Nat), u.FloorAgrees → (a = .request → (u.seat n).place = .idle) → (answer u k).FloorAgrees) :
    (s.present n a answer).FloorAgrees := by
  obtain he | ⟨p, before, k, rest, -, -, hof, -, hreach, he⟩ := s.present_cases n a answer
  · rw [he]; exact h
  have hspent : (before.foldl State.spend s).FloorAgrees := State.FloorAgrees.foldl (fun _ j hu => hu.spend j) before h
  have hkeep := hspent.keepSlots p.sweep rest
  rw [he, State.takeSlot]
  split
  · exact (hkeep.spend k).closePresentation
  · next hb => exact (ha _ _ hkeep (State.idle_of_request hof hreach hb)).closePresentation

theorem State.FloorAgrees.presentSlots (k : Nat) (l : List KeySlot) (h : s.FloorAgrees) : (State.presentSlots k l s).FloorAgrees := by
  induction l generalizing s with
  | nil => exact h
  | cons x l ih =>
    rw [State.presentSlots_cons]
    refine ih ?_
    cases hd : s.deriveSlot x with
    | none => rw [State.takeNextSlot_none hd]; exact (h.keepSlots k l).spend x
    | some a =>
      rw [State.takeNextSlot_some hd]
      exact (h.keepSlots k l).answer a (fun hr => Seat.derive_request (t := s.seat x.seat) (e := x.event) (hr ▸ hd)) k

theorem State.FloorAgrees.presentAll (h : s.FloorAgrees) : s.presentAll.FloorAgrees := by
  unfold State.presentAll
  split
  · exact h
  · exact (h.presentSlots _ _).of_same

end

end Sys2Proof.Machine
end

section
/-! ## Closing, changeover and timers keep the agreement of the floor -/

namespace Sys2Proof.Machine

section
variable {s : State}

/-! ### Lists of grants taken off the floor -/

/-- The End of some of the speakers, in any order. -/
theorem State.FloorAgrees.releaseList (h : s.FloorAgrees) (r : Reason) {l : List Speaker} (hl : ∀ e ∈ l, e ∈ s.speakers)
    (hnd : (l.map Speaker.chan).Nodup) : (s.releaseList r l).FloorAgrees := by
  induction l generalizing s with
  | nil => exact h
  | cons e l ih =>
    rw [List.map_cons, List.nodup_cons] at hnd
    obtain ⟨hc, ho⟩ := h.seated.speaker (hl e List.mem_cons_self)
    refine ih (h.release hc ho r) (fun x hx => ?_) hnd.2
    have hne : x.chan ≠ e.chan := fun he => hnd.1 (he ▸ List.mem_map_of_mem hx)
    have hmem := hl x (List.mem_cons_of_mem e hx)
    rw [(s.release_lists e.chan e.seat r).2.1]
    split
    · exact List.mem_filter.2 ⟨hmem, by simpa using hne⟩
    · exact hmem

/-- The End of a part of the speaker list, in any order. -/
theorem State.FloorAgrees.releaseSome (h : s.FloorAgrees) (r : Reason) {l l' : List Speaker} (hl : l.Sublist s.speakers) (hp : l'.Perm l) :
    (s.releaseList r l').FloorAgrees :=
  h.releaseList r (fun _ he => hl.subset (hp.subset he)) ((hp.map _).nodup_iff.2 (h.seated.speakersOnce.sublist (hl.map _)))

theorem State.FloorAgrees.clearFloor (h : s.FloorAgrees) (r : Reason) : (s.clearFloor r).FloorAgrees :=
  State.FloorAgrees.clearWaiting (s := s.releaseSpeakers r) (h.releaseSome r (List.Sublist.refl _) (List.Perm.refl _)) r

/-! ### Changeover (R61 to R66) -/

theorem State.FloorAgrees.raiseFitWarning (h : s.FloorAgrees) (e : Speaker) (before after : Bool) (time : Option Nat) :
    (s.raiseFitWarning e before after time).FloorAgrees := by
  obtain ⟨l, he⟩ := s.raiseFitWarning_eq e before after time
  rw [he]; exact h.raiseAll l

theorem State.raiseFitWarning_chan (s : State) (e : Speaker) (before after : Bool) (time : Option Nat) (c : Chan) :
    (s.raiseFitWarning e before after time).chan c = s.chan c := by
  obtain ⟨l, he⟩ := s.raiseFitWarning_eq e before after time
  rw [he, State.raiseAll_chan]

theorem State.FloorAgrees.meetExpiry (h : s.FloorAgrees) (c : Context) {e : Speaker} (hc : (s.chan e.chan).seat = some e.seat)
    (ho : e.chan ≠ .p) (time : Option Nat) : (s.meetExpiry c e time).FloorAgrees := by
  unfold State.meetExpiry
  split <;> [exact h.release hc ho _; exact h]

/-- R65: a surviving grant is fitted: its timer, its warned mark and its expiry. -/
theorem State.FloorAgrees.fitTimer (h : s.FloorAgrees) (c : Context) {e : Speaker} (he : e ∈ s.speakers) :
    (s.fitTimer c e).FloorAgrees := by
  obtain ⟨hc, ho⟩ := h.seated.speaker he
  have hset := h.retime ((h.seated.speaks e).1 he).2.1 ho
    (r := { s.chan e.chan with
      remaining := fitRemaining (c.allowance (s.classOf e.seat)) (s.chan e.chan).remaining,
      warned := c.warnedAt (fitRemaining (c.allowance (s.classOf e.seat)) (s.chan e.chan).remaining) })
  exact (hset.raiseFitWarning e _ _ _).meetExpiry c (by rw [State.raiseFitWarning_chan]; simpa using hc) ho _

theorem State.FloorAgrees.fitTimers (h : s.FloorAgrees) (c : Context) : (s.fitTimers c).FloorAgrees := by
  have key : ∀ (l : List Speaker) (s : State), s.FloorAgrees → (∀ e ∈ l, e ∈ s.speakers) → (l.map Speaker.chan).Nodup →
      (l.foldl (fun s e => s.fitTimer c e) s).FloorAgrees := by
    intro l
    induction l with
    | nil => exact fun _ h _ _ => h
    | cons e l ih =>
      intro s h hl hnd
      rw [List.map_cons, List.nodup_cons] at hnd
      have he := hl e List.mem_cons_self
      obtain ⟨-, hothers⟩ := h.seated.fitTimer (c := c) he
      refine ih _ (h.fitTimer c he) (fun x hx => ?_) hnd.2
      exact hothers x (hl x (List.mem_cons_of_mem e hx)) fun hc => hnd.1 (hc ▸ List.mem_map_of_mem hx)
  exact key _ _ h (fun _ => id) h.seated.speakersOnce

/-- R63 to R65: the steps of a changeover with carry, one after another. -/
theorem State.FloorAgrees.carryFloor (h : s.FloorAgrees) (c : Context) : (s.carryFloor c).FloorAgrees := by
  have hadmission : (s.fitAdmission c).FloorAgrees :=
    h.releaseSome .itemChange (l := s.speakers.filter fun e => !c.admitted.admits (s.classOf e.seat)) List.filter_sublist
      (List.Perm.refl _)
  have hmax : ((s.fitAdmission c).fitMaxLive c).FloorAgrees :=
    hadmission.releaseSome .itemChange (List.drop_sublist c.maxLive _) (List.reverse_perm _)
  have hlist : (((s.fitAdmission c).fitMaxLive c).fitListAdmission c).FloorAgrees :=
    hmax.removeList .itemChange (l := List.filter _ _) fun _ => List.mem_of_mem_filter
  have hdirect : ((((s.fitAdmission c).fitMaxLive c).fitListAdmission c).fitDirect c).FloorAgrees := by
    unfold State.fitDirect
    split <;> [exact hlist.clearWaiting _; exact hlist]
  have hlimit : (((((s.fitAdmission c).fitMaxLive c).fitListAdmission c).fitDirect c).fitListLimit c).FloorAgrees :=
    hdirect.removeList .truncated fun _ he => List.mem_of_mem_drop (List.mem_reverse.1 he)
  exact hlimit.fitTimers c

theorem State.FloorAgrees.changeover (h : s.FloorAgrees) (c : Context) : (s.changeover c).FloorAgrees := by
  refine (State.FloorAgrees.raise ?_ _).fill
  split <;> [exact h.carryFloor c; exact h.clearFloor _]

/-- Another agenda queue that is not empty, the queue not having been. -/
theorem State.FloorAgrees.withAgenda (h : s.FloorAgrees) {l : List Context} (hs : s.agenda ≠ []) (hl : l ≠ []) (hlen : l.length ≤ 2) :
    (s.withAgenda l).FloorAgrees := by
  obtain ⟨-, h2, h3, h4, h5⟩ := h.governed
  exact (h.seated.withAgenda l).floorAgrees ⟨hlen, iff_of_false (fun hc => hs (h2.1 hc)) hl, h3, h4, h5⟩

/-! ### Closing (R67) -/

/-- R107: after the End of channel P's holder, if it has one, the floor state stands. -/
theorem State.releaseHolder_floor (s : State) (r : Reason) : (s.releaseHolder r).floor = s.floor := by
  unfold State.releaseHolder
  split <;> [exact (s.release_lists _ _ r).2.2; rfl]

theorem State.timed_releaseHolder (h : ∀ c, (s.chan c).Timed c) (r : Reason) (c : Chan) : ((s.releaseHolder r).chan c).Timed c := by
  unfold State.releaseHolder
  split <;> [exact State.timed_release h _ _ _ c; exact h c]

/-- R62: clearing the floor leaves the floor state. -/
theorem State.clearFloor_floor (s : State) (r : Reason) : (s.clearFloor r).floor = s.floor :=
  ((s.releaseSpeakers r).clearWaiting_effect r _ _ rfl).2.2.2.1.trans (State.releaseList_lists r s.speakers s).2.1

theorem State.timed_clearFloor (h : ∀ c, (s.chan c).Timed c) (r : Reason) (c : Chan) : ((s.clearFloor r).chan c).Timed c := by
  have hclear : (s.clearFloor r).chan c = (s.releaseList r s.speakers).chan c :=
    congrArg (PerChan.get · c) (State.removeList_lists r (s.releaseSpeakers r).waiting (s.releaseSpeakers r)).2.2
  rw [hclear, State.releaseList_chan]
  split
  · exact ⟨fun _ => ⟨rfl, rfl⟩, fun _ => rfl⟩
  · exact h c

/-- R67: after the closing procedure the agenda queue and both lists are empty, and nobody holds channel P. -/
theorem State.FloorAgrees.closeFloor (h : s.FloorAgrees) (item : Nat) (r : Reason) : (s.closeFloor item r).FloorAgrees := by
  refine State.FloorAgrees.raise (s := (((s.withAgenda []).withFloor .closed).releaseHolder r).clearFloor r) ?_ _
  obtain ⟨hreleased, hp⟩ := ((h.seated.withAgenda []).withFloor .closed).releaseHolder r
  obtain ⟨hcleared, hw, hs, hchan⟩ := hreleased.clearFloor r
  have hfrozen : (((s.withAgenda []).withFloor .closed).releaseHolder r).frozen = ((s.withAgenda []).withFloor .closed).frozen :=
    (State.moves_releaseHolder _ r).frozen
  have hagenda : ((((s.withAgenda []).withFloor .closed).releaseHolder r).clearFloor r).agenda = [] :=
    State.agenda_of_frozen ((State.frozen_clearFloor _ r).trans hfrozen)
  have hfloor : ((((s.withAgenda []).withFloor .closed).releaseHolder r).clearFloor r).floor = .closed :=
    (State.clearFloor_floor _ r).trans (State.releaseHolder_floor _ r)
  refine hcleared.floorAgrees ⟨by simp [hagenda], iff_of_true hfloor hagenda, ?_, fun _ => ⟨hw, hs⟩, ?_⟩
  · rw [hcleared.held, hchan, hp, hfloor]
    simp
  · exact State.timed_clearFloor (State.timed_releaseHolder (s := (s.withAgenda []).withFloor .closed) h.governed.timed r) r

/-! ### The agenda's directives (R58 to R60, R68, R69) -/

/-- R58: the floor opened with the first context, nobody being on it. -/
theorem State.FloorAgrees.openFloor (h : s.FloorAgrees) (ha : s.agenda = []) (c : Context) :
    ((s.withAgenda [c]).withFloor .opened).FloorAgrees := by
  have hclosed := h.closed.2 ha
  refine ((h.seated.withAgenda [c]).withFloor .opened).floorAgrees
    ⟨Nat.le_succ 1, iff_of_false nofun nofun, iff_of_false nofun ?_, nofun, h.governed.timed⟩
  show ¬(s.chan .p).state = .live
  rw [← h.held, hclosed]
  nofun

theorem State.FloorAgrees.stageItem (h : s.FloorAgrees) (tag : Byte) (c : Context) : (s.stageItem tag c).FloorAgrees := by
  unfold State.stageItem
  split
  · next ha => exact (((h.openFloor ha c).raise _).fill).reply tag _
  · next a ha => exact State.FloorAgrees.reply (s := s.withAgenda [a, c]) (h.withAgenda (by simp [ha]) (by simp) (by simp)) tag _
  · exact h.reply tag _

theorem State.FloorAgrees.advanceItem (h : s.FloorAgrees) (tag : Byte) : (s.advanceItem tag).FloorAgrees := by
  unfold State.advanceItem
  split
  · exact h.reply tag _
  · next a rest ha =>
    split
    · exact h.reply tag _
    · cases rest with
      | cons n later =>
        have hlen : (n :: later).length ≤ 2 := by
          have := h.agenda
          rw [ha] at this
          simp only [List.length_cons] at this ⊢
          omega
        exact ((h.withAgenda (l := n :: later) (by simp [ha]) (by simp) hlen).changeover n).reply tag _
      | nil =>
        simp only
        split
        · exact h.reply tag _
        · exact (h.closeFloor _ _).reply tag _

theorem State.FloorAgrees.flushAgenda (h : s.FloorAgrees) (tag : Byte) : (s.flushAgenda tag).FloorAgrees := by
  unfold State.flushAgenda
  split
  · exact h.reply tag _
  · next a rest ha =>
    split
    · have hkept := h.withAgenda (l := [a]) (by simp [ha]) (by simp) (by simp)
      exact (((hkept.clearFloor _).endHolder _).fill).reply tag _
    · exact (h.closeFloor _ _).reply tag _

/-! ### Timers (R111, R113 to R121) -/

theorem State.FloorAgrees.stopTimer (h : s.FloorAgrees) (c : Chan) : (s.stopTimer c).FloorAgrees := h.of_same

/-- R102, R115: a channel that has a timer is LIVE, and an ordinary one. -/
theorem State.FloorAgrees.timed_live (h : s.FloorAgrees) {c : Chan} {r : Nat} (hr : (s.chan c).remaining = some r) :
    (s.chan c).state = .live ∧ c ≠ .p := by
  constructor
  · by_contra hl
    have hnone := ((h.governed.timed c).idle hl).1
    rw [hr] at hnone
    cases hnone
  · rintro rfl
    rw [h.untimed] at hr
    cases hr

theorem State.FloorAgrees.warnAfter (h : s.FloorAgrees) (x : Context) {c : Chan} (hl : (s.chan c).state = .live) (ho : c ≠ .p)
    (n r : Nat) : (s.warnAfter x c n r).FloorAgrees := by
  unfold State.warnAfter
  split <;> [exact (h.retime hl ho).raise _; exact h]

/-- R116: a warning leaves the channel LIVE and bound as it is. -/
theorem State.warnAfter_keeps (s : State) (x : Context) (c : Chan) (n r : Nat) :
    ((s.warnAfter x c n r).chan c).state = (s.chan c).state ∧ ((s.warnAfter x c n r).chan c).seat = (s.chan c).seat := by
  unfold State.warnAfter
  split <;> simp

theorem State.FloorAgrees.expireAfter (h : s.FloorAgrees) (x : Context) {c : Chan} {n : Nat} (hc : (s.chan c).seat = some n)
    (hl : (s.chan c).state = .live) (ho : c ≠ .p) : (s.expireAfter x c n).FloorAgrees := by
  unfold State.expireAfter
  split
  · exact h.endOrdinary hc ho _
  · exact (h.retime hl ho).raise _

theorem State.FloorAgrees.countDown (h : s.FloorAgrees) (x : Context) {c : Chan} {n : Nat} (hc : (s.chan c).seat = some n)
    (hl : (s.chan c).state = .live) (ho : c ≠ .p) (r : Nat) : (s.countDown x c n r).FloorAgrees := by
  have hset := h.retime hl ho (r := { s.chan c with remaining := some r })
  have hwarned := hset.warnAfter x (by simpa using hl) ho n r
  obtain ⟨hstate, hseat⟩ := (s.setChan c { s.chan c with remaining := some r }).warnAfter_keeps x c n r
  unfold State.countDown
  simp only
  split
  · exact hwarned.expireAfter x (by rw [hseat]; simpa using hc) (by rw [hstate]; simpa using hl) ho
  · exact hwarned

theorem State.FloorAgrees.tick (h : s.FloorAgrees) (c : Chan) : (s.tick c).FloorAgrees := by
  unfold State.tick
  simp only
  split
  · next hn hr =>
    split
    · exact h.stopTimer c
    · obtain ⟨hl, ho⟩ := h.timed_live hr
      exact (h.stopTimer c).countDown _ hn hl ho _
  · exact h.stopTimer c

theorem State.FloorAgrees.countHeld (h : s.FloorAgrees) : s.countHeld.FloorAgrees := by
  have hchan : ∀ c, (s.countHeld.chan c).state = (s.chan c).state ∧ (s.countHeld.chan c).seat = (s.chan c).seat ∧
      (s.countHeld.chan c).remaining = (s.chan c).remaining ∧ (s.countHeld.chan c).warned = (s.chan c).warned := fun c => by
    rw [State.chan_countHeld, Channel.countHeld]
    split <;> exact ⟨rfl, rfl, rfl, rfl⟩
  refine h.of_frozen s.frozen_countHeld (h.seated.of_view rfl (fun _ => ⟨rfl, rfl⟩) (fun c => ?_) rfl rfl) rfl ?_ (fun c => ?_) h.empty
  · rw [(hchan c).1, (hchan c).2.1]; exact ⟨Iff.rfl, rfl⟩
  · rw [(hchan .p).1]
  · obtain ⟨h1, -, h2, h3⟩ := hchan c
    obtain ⟨hidle, hp⟩ := h.governed.timed c
    exact ⟨by rw [h1, h2, h3]; exact hidle, by rw [h2]; exact hp⟩

theorem State.FloorAgrees.takeFreed (h : s.FloorAgrees) (c : Chan) : (s.takeFreed c).FloorAgrees := by
  unfold State.takeFreed State.freedDue
  split
  · next hd =>
    simp only [Bool.and_eq_true, beq_iff_eq] at hd
    have hidle := (h.governed.timed c).idle (by simp [hd.2])
    have hfree : (s.setChan c { s.chan c with state := .free }).FloorAgrees :=
      h.setChan (by simp [hd.2]) rfl ⟨fun _ => hidle, fun _ => hidle.1⟩
    exact State.FloorAgrees.fill (s := s.freeChan c) hfree.of_same
  · exact h

theorem State.FloorAgrees.takeAllFreed (h : s.FloorAgrees) : s.takeAllFreed.FloorAgrees :=
  State.FloorAgrees.of_same (State.FloorAgrees.foldl (fun _ c hu => hu.takeFreed c) s.owed.freed h)

end

end Sys2Proof.Machine
end

section
/-! ## Every command keeps the agreement of the floor -/

namespace Sys2Proof.Machine

section
variable {s : State}

/-! ### Losses and the audit (R10 to R12, R32, R152, R156) -/

/-- R32: the seats of one sweep, lost first and then taken off the floor. -/
theorem State.FloorAgrees.takeLosses (h : s.FloorAgrees) : s.takeLosses.FloorAgrees := by
  have heq := s.lossesMade_eq
  have hmade : s.lossesMade.FloorAgrees := h.of_places (State.loseSeats_length _ _) s.lossesMade_place (by rw [heq]) (by rw [heq])
    (by rw [heq]) (by rw [heq]) (by rw [heq])
  exact hmade.takeOff _ _

theorem State.FloorAgrees.breakTrunk (h : s.FloorAgrees) (k : Nat) : (s.breakTrunk k).FloorAgrees := by
  have hdown : ({ s with trunk := .down }.raise (.trunkDown k)).FloorAgrees :=
    State.FloorAgrees.raise (s := { s with trunk := .down }) h.of_same _
  have hlost : ({ s with trunk := .down }.raise (.trunkDown k)).loseAllSeats.FloorAgrees := hdown.mapSeats rfl fun _ => ⟨rfl, rfl⟩
  exact hlost.breakFloor

theorem State.FloorAgrees.declareLost (h : s.FloorAgrees) (k : Nat) : (s.declareLost k).FloorAgrees := by
  have hcount : { s with lostRun := min (s.lostRun + 1) Config.lostRunLimit, discarded := [] }.FloorAgrees := h.of_same
  unfold State.declareLost
  simp only
  split <;> [exact hcount.breakTrunk k; exact hcount]

theorem State.FloorAgrees.declareOwedLoss (h : s.FloorAgrees) : s.declareOwedLoss.FloorAgrees := by
  unfold State.declareOwedLoss
  split
  · exact h
  · exact State.FloorAgrees.declareLost (s := s.setOwed { s.owed with lostSweep := none }) h.of_same _

theorem State.FloorAgrees.lostSweepStep (h : s.FloorAgrees) : s.lostSweepStep.FloorAgrees := by
  unfold State.lostSweepStep State.declareAwaitedLoss
  split
  · exact h.declareOwedLoss
  · split
    · exact h
    · split
      · exact State.FloorAgrees.declareLost (s := { s with awaiting := none }) h.of_same _
      · exact h

theorem State.FloorAgrees.compareAll (h : s.FloorAgrees) (l : List AuditEntry) : (s.compareAll l).FloorAgrees := by
  have hkept : ∀ (t : Seat) (k : Nat) (e : AuditEntry), (t.compare k e).place = t.place ∧ (t.compare k e).bound = t.bound :=
    fun t k e => by unfold Seat.compare; split <;> exact ⟨rfl, rfl⟩
  refine State.FloorAgrees.foldl (fun u e hu => ?_) l h
  unfold State.compareEntry
  split <;> [exact hu.updSeat _ (hkept _ _ _).1 (hkept _ _ _).2; exact hu]

theorem State.FloorAgrees.removeReported (h : s.FloorAgrees) (n : Nat) : (s.removeReported n).FloorAgrees := by
  unfold State.removeReported
  split
  · exact h
  · next hn => exact h.removeWaiting_of_waiting hn _
  · exact h.endSeat n _

theorem State.FloorAgrees.reportOne (h : s.FloorAgrees) : s.reportOne.FloorAgrees := by
  unfold State.reportOne
  split
  · exact h
  · next n _ =>
    split
    · exact h
    · next sense _ =>
      have hflag : ((s.raise (.discrepancy n sense)).updSeat n Seat.reported).FloorAgrees := (h.raise _).updSeat n rfl rfl
      exact State.FloorAgrees.removeReported (s := { (s.raise (.discrepancy n sense)).updSeat n Seat.reported with cursor := n })
        hflag.of_same n

theorem State.FloorAgrees.takeAudit (h : s.FloorAgrees) : s.takeAudit.FloorAgrees := by
  unfold State.takeAudit
  split
  · exact h
  · exact (State.FloorAgrees.compareAll (s := s.setOwed { s.owed with audit := none }) h.of_same _).reportOne

theorem State.FloorAgrees.settleSweep (h : s.FloorAgrees) : s.settleSweep.FloorAgrees :=
  h.declareOwedLoss.presentAll.takeLosses.takeAudit

/-! ### The return of a sweep (R8, R28, R38) -/

theorem State.FloorAgrees.trunkReturned (h : s.FloorAgrees) (k : Nat) : (s.trunkReturned k).FloorAgrees := by
  rw [State.trunkReturned_eq]
  exact State.FloorAgrees.raiseAll (s := { s with lostRun := 0, trunk := .up }) h.of_same _

/-- R28, R38: an entry of a returned sweep leaves the seat's place. -/
theorem State.handEntries_place (s : State) (k : Nat) (ups : List UpHalf) (n : Nat) :
    ((s.handEntries k ups).seat n).place = (s.seat n).place ∧ ((s.handEntries k ups).seat n).bound = (s.seat n).bound := by
  cases n with
  | zero => exact ⟨rfl, rfl⟩
  | succ i =>
    simp only [State.seat, State.handEntries, List.getD_eq_getElem?_getD, List.getElem?_map, getElem?_pairUp]
    cases s.seats[i]? with
    | none => exact ⟨rfl, rfl⟩
    | some x => exact ⟨(x.keeps_swept _ _).place, (x.keeps_swept _ _).bound⟩

theorem State.FloorAgrees.handEntries (h : s.FloorAgrees) (k : Nat) (ups : List UpHalf) : (s.handEntries k ups).FloorAgrees := by
  have hlen : (s.handEntries k ups).seats.length = s.seats.length := by rw [State.handEntries, List.length_map, length_pairUp]
  have hfound : (s.raiseFound (numbersOf (fun x => x.2.answered && !x.1.present) 1 (pairUp s.seats ups))).FloorAgrees := by
    rw [State.raiseFound_eq]; exact h.raiseAll _
  refine hfound.of_places (hlen.trans (h.seats.trans hfound.seats.symm)) fun n => ?_
  rw [State.raiseFound_eq, State.raiseAll_seat]
  exact s.handEntries_place k ups n

theorem State.FloorAgrees.takeReturn (h : s.FloorAgrees) : s.takeReturn.FloorAgrees := by
  unfold State.takeReturn
  split
  · exact h
  · next r _ =>
    have hset : (s.setOwed { s.owed with returned := none }).FloorAgrees := h.of_same
    exact ((hset.settleSweep.trunkReturned r.sweep).handEntries _ _).closePresentation

/-! ### The interval start and the frame period (R4 to R7, R49, R111, R115) -/

theorem State.FloorAgrees.takeBlink (h : s.FloorAgrees) : s.takeBlink.FloorAgrees := by
  unfold State.takeBlink
  split <;> [exact h.of_same; exact h]

theorem State.FloorAgrees.takeLockout (h : s.FloorAgrees) (n : Nat) : (s.takeLockout n).FloorAgrees := by
  unfold State.takeLockout
  split
  · have hupd : (s.updSeat n fun t => { t with lockout := t.lockout - 1 }).FloorAgrees := h.updSeat n rfl rfl
    exact hupd.of_same
  · exact h

theorem State.FloorAgrees.takeLockouts (h : s.FloorAgrees) : s.takeLockouts.FloorAgrees :=
  State.FloorAgrees.foldl (fun _ n hu => hu.takeLockout n) _ h

theorem State.FloorAgrees.takeTimers (h : s.FloorAgrees) : s.takeTimers.FloorAgrees :=
  State.FloorAgrees.foldl (fun _ c hu => by unfold State.takeTimer; split <;> [exact hu.tick c; exact hu]) _ h

theorem State.FloorAgrees.settleInterval (h : s.FloorAgrees) : s.settleInterval.FloorAgrees :=
  h.takeBlink.takeLockouts.takeTimers.declareOwedLoss.takeReturn

theorem State.FloorAgrees.emitSweep (h : s.FloorAgrees) : s.emitSweep.FloorAgrees := by
  rw [State.emitSweep_eq]
  exact h.mapSeats rfl fun _ => ⟨rfl, rfl⟩

theorem State.FloorAgrees.countInterval (h : s.FloorAgrees) : s.countInterval.FloorAgrees := by
  have hlockouts : s.countHeld.countLockouts.FloorAgrees := h.countHeld.mapSeats rfl fun t => by
    unfold Seat.countLockout; split <;> exact ⟨rfl, rfl⟩
  exact State.FloorAgrees.foldl (fun _ c hu => by unfold State.countTimer; split <;> [exact hu.of_same; exact hu.tick c]) _ hlockouts

theorem State.FloorAgrees.startInterval (h : s.FloorAgrees) (o : IntervalOrder) : (s.startInterval o).FloorAgrees := by
  unfold State.startInterval
  split
  · cases o with
    | emissionFirst => exact h.settleInterval.emitSweep.countInterval
    | countsFirst => exact h.settleInterval.countInterval.takeLockouts.takeTimers.emitSweep
  · exact h

theorem State.FloorAgrees.takeLock (h : s.FloorAgrees) : s.takeLock.FloorAgrees := by
  unfold State.takeLock
  split <;> [exact h.of_same; exact h]

theorem State.FloorAgrees.takeUnlock (h : s.FloorAgrees) : s.takeUnlock.FloorAgrees := by
  rw [State.sansUnlock_eq s.sansUnlock_takeUnlock]; exact h.of_same

theorem State.FloorAgrees.beforeFrame (h : s.FloorAgrees) : s.beforeFrame.FloorAgrees := by
  have hstart := h.takeLock.takeUnlock.takeAllFreed.startInterval .emissionFirst
  unfold State.beforeFrame State.settleFirst
  split <;> [exact hstart.settleSweep; exact hstart]

theorem State.FloorAgrees.framePeriod (h : s.FloorAgrees) (r b : Option (List Byte)) : (s.framePeriod r b).FloorAgrees := by
  rw [State.sansFrame_eq (s.sansFrame_framePeriod r b)]; exact h.of_same

theorem State.FloorAgrees.of_input {t : State} (h : s.FloorAgrees) (e : t.sansInput = s.sansInput) : t.FloorAgrees := by
  rw [State.sansInput_eq e]; exact h.of_same

theorem State.FloorAgrees.of_output {t : State} (h : s.FloorAgrees) (e : t.sansOutput = s.sansOutput) : t.FloorAgrees := by
  rw [State.sansOutput_eq e]; exact h.of_same

/-! ### The seat table (R20 to R24, R159) -/

/-- R21: a load of the seat table writes no place. -/
theorem State.FloorAgrees.writeConfigs (h : s.FloorAgrees) (first : Nat) (l : List SeatConfig) : (s.writeConfigs first l).FloorAgrees := by
  induction l generalizing s first with
  | nil => exact h
  | cons e l ih =>
    have hkept : ∀ t : Seat, (t.withConfig e).place = t.place ∧ (t.withConfig e).bound = t.bound := fun t => by
      rw [Seat.withConfig_eq]; exact ⟨rfl, rfl⟩
    exact ih (h.updSeat first (hkept _).1 (hkept _).2) _

theorem State.FloorAgrees.loadSeats (h : s.FloorAgrees) (tag : Byte) (first : Nat) (l : List SeatConfig) :
    (s.loadSeats tag first l).FloorAgrees := ((h.writeConfigs first l).takeOff _ _).reply tag _

theorem State.FloorAgrees.clearFlag (h : s.FloorAgrees) (tag : Byte) (k : Nat) : (s.clearFlag tag k).FloorAgrees := by
  unfold State.clearFlag
  split
  · have hall : { s with seats := s.seats.map Seat.cleared }.FloorAgrees := h.mapSeats rfl fun _ => ⟨rfl, rfl⟩
    exact hall.reply tag _
  split
  · exact (h.updSeat k (f := Seat.cleared) rfl rfl).reply tag _
  · exact h.reply tag _

/-! ### The floor's directives (R91 to R96, R119, R120, R168) -/

theorem State.FloorAgrees.operatorGrant (h : s.FloorAgrees) (tag : Byte) (n : Nat) : (s.operatorGrant tag n).FloorAgrees := by
  unfold State.operatorGrant
  split
  · exact h.reply tag _
  next ho =>
  split
  · exact h.reply tag _
  split
  · exact h.reply tag _
  split
  · next he =>
    split
    · exact h.reply tag _
    · next hb =>
      unfold State.grantByOperator
      split
      · exact h.reply tag _
      · next hroom =>
        have hn : (s.seat n).place ≠ .live := fun hl => (h.seated.live n).1 hl hb
        exact (h.grant ho (State.range_of_eligible h.seats he) hn hroom _).reply tag _
  · exact h.reply tag _

theorem State.FloorAgrees.operatorRevoke (h : s.FloorAgrees) (tag : Byte) (n : Nat) : (s.operatorRevoke tag n).FloorAgrees := by
  unfold State.operatorRevoke
  split
  · exact (h.endSeat n _).reply tag _
  · next hn => exact (h.removeWaiting_of_waiting hn _).reply tag _
  · exact h.reply tag _

theorem State.FloorAgrees.operatorEnqueue (h : s.FloorAgrees) (tag : Byte) (n i : Nat) : (s.operatorEnqueue tag n i).FloorAgrees := by
  unfold State.operatorEnqueue
  split
  · exact h.reply tag _
  next ho =>
  split
  swap
  · exact h.reply tag _
  next he =>
  simp only [Bool.and_eq_true, beq_iff_eq] at he
  split
  · exact h.reply tag _
  split
  · exact h.reply tag _
  split
  · have hpos : fitPosition s.waiting.length i - 1 ≤ s.waiting.length := by
      have := (clamp_range (lo := 1) (hi := s.waiting.length + 1) (by omega) i).2
      unfold fitPosition; omega
    exact ((h.insertWaiting ho (State.range_of_eligible h.seats he.1) he.2 _ hpos).fill).reply tag _
  · exact h.reply tag _

theorem State.FloorAgrees.operatorRemove (h : s.FloorAgrees) (tag : Byte) (n : Nat) : (s.operatorRemove tag n).FloorAgrees := by
  unfold State.operatorRemove
  split
  · next hn => exact (h.removeWaiting_of_waiting hn _).reply tag _
  · exact h.reply tag _
  · exact h.reply tag _

theorem State.FloorAgrees.operatorNext (h : s.FloorAgrees) (tag : Byte) : (s.operatorNext tag).FloorAgrees := by
  unfold State.operatorNext
  split
  · exact h.reply tag _
  · exact h.reply tag _
  · next ho => exact (h.takeNext (by simp [ho])).reply tag _

theorem State.FloorAgrees.operatorCancel (h : s.FloorAgrees) (tag : Byte) : (s.operatorCancel tag).FloorAgrees := by
  unfold State.operatorCancel
  split <;> [exact h.reply tag _; exact h.cancelFloor.reply tag _]

/-- R119, R120: time is added to a grant that has a timer. -/
theorem State.FloorAgrees.operatorExtend (h : s.FloorAgrees) (tag : Byte) (n k : Nat) : (s.operatorExtend tag n k).FloorAgrees := by
  unfold State.operatorExtend
  split
  · exact h.reply tag _
  · exact h.reply tag _
  · next c _ _ =>
    split
    · exact h.reply tag _
    · next hr =>
      obtain ⟨hl, ho⟩ := h.timed_live hr
      exact State.FloorAgrees.reply (h.retime hl ho) tag _

theorem State.FloorAgrees.setGeneral (h : s.FloorAgrees) (tag : Byte) (r : GeneralRecord) : (s.setGeneral tag r).FloorAgrees :=
  (State.FloorAgrees.fill (s := { s with settings := r.settings, rotation := r.rotation.getD s.rotation }) h.of_same).reply tag _

/-! ### Dispatch, and every command -/

/-- The oldest entry gone from the input buffer. -/
theorem State.FloorAgrees.oldest {u : State} {e : Entry} (h : s.FloorAgrees) (ho : s.oldest = some (e, u)) : u.FloorAgrees := by
  unfold State.oldest at ho
  split at ho
  · cases ho
  · split at ho <;> cases ho
    exact h.of_same

/-- A dispatch keeps the agreement where the directive's owner does. -/
theorem State.FloorAgrees.dispatch (h : s.FloorAgrees) (k : Nat) {owner : State → Byte → Directive → State}
    (ho : ∀ (u : State) (tag : Byte) (d : Directive), u.FloorAgrees → (owner u tag d).FloorAgrees) :
    (s.dispatch k owner).FloorAgrees := by
  unfold State.dispatch
  split
  · exact h
  · next hu =>
    split
    · split
      · exact (h.oldest hu).reply _ _
      · exact ho _ _ _ (h.oldest hu)
    · exact h

theorem State.FloorAgrees.dispatchSkip (h : s.FloorAgrees) : s.dispatchSkip.FloorAgrees := by
  unfold State.dispatchSkip
  split
  · exact h
  · next ho => split <;> [exact (h.oldest ho).reply _ _; exact h]

theorem State.FloorAgrees.dispatchUnknown (h : s.FloorAgrees) : s.dispatchUnknown.FloorAgrees := by
  unfold State.dispatchUnknown
  split
  · exact h
  · next ho => split <;> [exact (h.oldest ho).reply _ _; exact h]

/-- Every command keeps the floor, the seats, the channels and the lists in agreement. -/
theorem State.FloorAgrees.exec {t : State} (h : s.FloorAgrees) {c : Instr} (ht : exec c s = .next t) : t.FloorAgrees := by
  cases c with
  | pinReset => cases ht; exact State.floorAgrees_reset.of_same
  | framePeriod r b => cases ht; exact h.beforeFrame.framePeriod r b
  | headLinkLock => cases ht; exact h.takeLock
  | headLinkUnlock => cases ht; exact h.takeUnlock
  | sweepIntervalStart o => cases ht; exact h.startInterval o
  | blinkPhaseToggle => cases ht; exact h.takeBlink
  | lockoutExpiry n => cases ht; exact h.takeLockout n
  | expired c => cases ht; split <;> [exact h.tick c; exact h]
  | timeOver c => cases ht; split <;> [exact h.tick c; exact h]
  | lostSweep => cases ht; exact h.lostSweepStep
  | trunkDown => cases ht; split <;> [exact h.lostSweepStep; exact h]
  | sweepReturned => cases ht; exact h.takeReturn
  | seatLost => cases ht; exact h.takeLosses
  | request n => cases ht; exact h.present n .request fun u k hu hn => hu.judgeRequest (hn rfl) k
  | withdraw n => cases ht; exact h.present n .withdraw fun u _ hu _ => hu.judgeWithdraw n
  | nextAction n => cases ht; exact h.present n .next fun u _ hu _ => hu.judgeNext
  | cancelAction n => cases ht; exact h.present n .cancel fun u _ hu _ => hu.judgeCancel
  | priorityHeld n => cases ht; exact h.present n .priorityHeld fun u _ hu _ => hu.judgePriorityHeld n
  | priorityReleased n => cases ht; exact h.present n .priorityReleased fun u _ hu _ => hu.judgePriorityReleased n
  | auditSweep => cases ht; exact h.takeAudit
  | channelFreed c => cases ht; exact h.takeFreed c
  | messageHeader => cases ht; exact h.of_input s.sansInput_takeHeader
  | directiveComplete => cases ht; exact h.of_same
  | skipEntryDispatch => cases ht; exact h.dispatchSkip
  | unknownKind => cases ht; exact h.dispatchUnknown
  | loadSeats => cases ht; exact h.dispatch 1 fun u tag d hu => by split <;> [exact hu.loadSeats tag _ _; exact hu]
  | readSeats => cases ht; exact h.dispatch 2 fun u tag d hu => by split <;> [exact hu.reply tag _; exact hu]
  | setGeneral => cases ht; exact h.dispatch 3 fun u tag d hu => by split <;> [exact hu.setGeneral tag _; exact hu]
  | stageItem => cases ht; exact h.dispatch 4 fun u tag d hu => by split <;> [exact hu.stageItem tag _; exact hu]
  | advanceItem => cases ht; exact h.dispatch 5 fun u tag d hu => by split <;> [exact hu.advanceItem tag; exact hu]
  | flushAgenda => cases ht; exact h.dispatch 6 fun u tag d hu => by split <;> [exact hu.flushAgenda tag; exact hu]
  | grant => cases ht; exact h.dispatch 7 fun u tag d hu => by split <;> [exact hu.operatorGrant tag _; exact hu]
  | revoke => cases ht; exact h.dispatch 8 fun u tag d hu => by split <;> [exact hu.operatorRevoke tag _; exact hu]
  | enqueue => cases ht; exact h.dispatch 9 fun u tag d hu => by split <;> [exact hu.operatorEnqueue tag _ _; exact hu]
  | remove => cases ht; exact h.dispatch 10 fun u tag d hu => by split <;> [exact hu.operatorRemove tag _; exact hu]
  | next => cases ht; exact h.dispatch 11 fun u tag d hu => by split <;> [exact hu.operatorNext tag; exact hu]
  | cancelAll => cases ht; exact h.dispatch 12 fun u tag d hu => by split <;> [exact hu.operatorCancel tag; exact hu]
  | extend => cases ht; exact h.dispatch 13 fun u tag d hu => by split <;> [exact hu.operatorExtend tag _ _; exact hu]
  | clearFlag => cases ht; exact h.dispatch 14 fun u tag d hu => by split <;> [exact hu.clearFlag tag _; exact hu]
  | readFloor => cases ht; exact h.dispatch 15 fun u tag d hu => by split <;> [exact hu.reply tag _; exact hu]
  | restart =>
    cases ht
    exact h.dispatch 16 fun u tag d hu => by
      split <;> [exact State.floorAgrees_reset.of_same (t := u.restart tag); exact hu]
  | messageStart => cases ht; exact h.of_output s.sansOutput_startMessage
  | messageSent => cases ht; exact h.of_output s.sansOutput_finishMessage

end

/-- Settles O58: the agreement is that of the seats, channels and lists (`State.Seated`) under the floor state (`State.Governed`); each
operation of the floor keeps both, the End of channel P together with the floor it opens, the Grant of channel P together with the floor
it holds, and the closing procedure as a whole. -/
theorem stepKeepsFloorAgreement : Obligations.StepKeepsFloorAgreement := by
  intro s t h ht
  unfold step at ht
  split at ht
  · cases ht; exact h
  · next c rest _ => exact State.FloorAgrees.exec (s := { s with pending := rest }) h.of_same ht

end Sys2Proof.Machine
end

section
/-! ## STAGE_ITEM and raised notices (R58, R59, R71, R161, R166, R167) -/

namespace Sys2Proof.Machine

/-! ### STAGE_ITEM -/

/-- What a dispatched STAGE_ITEM does. -/
theorem exec_stageItem_due {s : State} {tag : Byte} {c : Context} {rest : List Entry} (h : s.Dispatching tag (.stageItem c) rest) :
    exec .stageItem s = .next ((s.withBuffer rest).stageItem tag c) :=
  congrArg Host.Outcome.next (State.dispatch_due h _)

/-- R58: with nobody waiting the floor is opened without a grant. -/
theorem State.stageItem_of_empty {s : State} (ha : s.agenda = []) (hw : s.waiting = []) (tag : Byte) (c : Context) :
    s.stageItem tag c =
      (((s.withAgenda [c]).withFloor .opened).raise (.itemChanged c.item c.mode)).reply tag (.position 1) := by
  have hfill := State.fill_of_empty (((s.withAgenda [c]).withFloor .opened).raise (.itemChanged c.item c.mode))
    ((State.raise_waiting _ _).trans hw)
  rw [State.stageItem, ha]
  exact congrArg (fun u : State => u.reply tag (.position 1)) hfill

/-- R59: behind one context the record is staged. -/
theorem State.stageItem_of_single {s : State} {a : Context} (ha : s.agenda = [a]) (tag : Byte) (c : Context) :
    s.stageItem tag c = (s.withAgenda [a, c]).reply tag (.position 2) := by rw [State.stageItem, ha]; rfl

/-- R59: behind two contexts there is no place. -/
theorem State.stageItem_of_full {s : State} {a b : Context} {l : List Context} (ha : s.agenda = a :: b :: l) (tag : Byte) (c : Context) :
    s.stageItem tag c = s.reply tag (.refused .agendaFull) := by rw [State.stageItem, ha]

/-- Settles O41: one equation for each length of the agenda queue. -/
theorem stageItemOpensOrStages : Obligations.StageItemOpensOrStages := by
  refine fun s tag c rest h => ⟨fun ha hw => ?_, fun a ha => ?_, fun a b l ha => ?_⟩ <;> rw [exec_stageItem_due h]
  · exact congrArg _ (State.stageItem_of_empty (s := s.withBuffer rest) ha hw tag c)
  · exact congrArg _ (State.stageItem_of_single (s := s.withBuffer rest) ha tag c)
  · exact congrArg _ (State.stageItem_of_full (s := s.withBuffer rest) ha tag c)

/-! ### Notices as they are sent (R161, R167) -/

/-- R161: yes is 01h and no 00h. -/
theorem yesNo_eq (b : Bool) : yesNo b = BitVec.ofNat 8 b.toNat := by cases b <;> rfl

/-- R161, R167: a notice of a group, whose body is a list of one-byte fields, is sent as its kind, tag 00h, their number, and the
fields. -/
theorem Notice.sent_as {x : Notice} {g : Option Nat} {kind : Nat} {fields : List Nat} (hb : x.body = fields.map (BitVec.ofNat 8))
    (hg : x.group = g := by rfl) (hk : x.kind = BitVec.ofNat 8 kind := by rfl) :
    x.group = g ∧ x.bytes = (kind :: 0 :: fields.length :: fields).map (BitVec.ofNat 8) := by
  refine ⟨hg, ?_⟩
  rw [Notice.bytes, messageBytes, hk, hb, List.length_map]
  rfl

/-! ### Raised notices and their departure (R166, R167) -/

section
variable {s : State} {x : Notice}

/-- R167: a notice is masked exactly where it belongs to a group whose mask bit is 0. -/
theorem Settings.enables_eq_false_iff (m : Settings) (x : Notice) :
    m.enables x = false ↔ ∃ g, x.group = some g ∧ m.noticeMask.getLsbD g = false := by
  unfold Settings.enables
  cases x.group <;> simp

theorem State.raise_of_masked (h : s.settings.enables x = false) : s.raise x = s := by simp [State.raise, h]

theorem State.raise_of_room (h : s.settings.enables x = true) (hl : s.notices.length < 32) :
    s.raise x = { s with notices := s.notices ++ [x] } := by simp [State.raise, h, hl]

theorem State.raise_of_full (h : s.settings.enables x = true) (hl : 32 ≤ s.notices.length) :
    s.raise x = { s with overrun := true, lostCount := min (s.lostCount + 1) 65535 } := by
  simp [State.raise, h, Nat.not_lt.2 hl]

/-- R166: a notice that has been sent to its end leaves the queue. -/
theorem exec_messageSent_notice (h : s.sending = some { source := .notice, rest := [] }) :
    exec .messageSent s = .next (State.departNotice { s with sending := none }) := by
  have hfinish : s.finishMessage = State.departNotice { s with sending := none } := by rw [State.finishMessage, h]
  exact congrArg Host.Outcome.next hfinish

end

/-- Settles O45: the layout of each kind of notice, the code tables, and each way a raised notice and a sent one can go. -/
theorem raisedNoticeIsQueuedOrCounted : Obligations.RaisedNoticeIsQueuedOrCounted := by
  refine ⟨fun n p d i c r e m yes => ?_, rfl, rfl, rfl, rfl, fun s x g => ⟨fun hg hm => ?_, fun hx => ?_, fun hs => ?_⟩⟩
  · simp only [List.forall_mem_cons]
    have hgranted : (Notice.granted n c yes).body = [n, c.code, yes.toNat].map (BitVec.ofNat 8) := by
      rw [Notice.body, yesNo_eq]; rfl
    exact ⟨Notice.sent_as hgranted, Notice.sent_as rfl, Notice.sent_as rfl, Notice.sent_as rfl, Notice.sent_as rfl, Notice.sent_as rfl,
      Notice.sent_as rfl, Notice.sent_as rfl, Notice.sent_as rfl, Notice.sent_as rfl, Notice.sent_as rfl, Notice.sent_as rfl,
      Notice.sent_as rfl, Notice.sent_as rfl, Notice.sent_as rfl, Notice.sent_as rfl, Notice.sent_as rfl, Notice.sent_as rfl,
      List.forall_mem_nil _⟩
  · exact State.raise_of_masked ((Settings.enables_eq_false_iff _ x).2 ⟨g, hg, hm⟩)
  · have he : s.settings.enables x = true := by
      rw [← Bool.not_eq_false, Settings.enables_eq_false_iff]
      rintro ⟨j, hj, hm⟩
      obtain hnone | ⟨hg, hset⟩ := hx
      · rw [hj] at hnone; cases hnone
      · rw [hj] at hg; cases hg
        rw [hm] at hset; cases hset
    exact ⟨State.raise_of_room he, State.raise_of_full he⟩
  · rw [exec_messageSent_notice hs]
    exact ⟨fun ho => by rw [State.departNotice]; simp [ho], fun ho => by rw [State.departNotice]; simp [ho]⟩

end Sys2Proof.Machine
end

section
/-! # Floor arbitration: requests, the waiting list, fill and the operator's directives -/

/-! ## Room, fill and grants from the head (R78, R88 to R90) -/

namespace Sys2Proof.Machine

/-! ### Room (R78) -/

theorem mem_ordinaryChans_iff_ne {c : Chan} : c ∈ ordinaryChans ↔ c ≠ .p := by
  rw [mem_ordinaryChans, Chan.isOrdinary, bne_iff_ne]

/-- The ordinary channels stand in the order of their numbers. -/
theorem ordinaryChans_ascending : ordinaryChans.Pairwise fun c d => c.code < d.code := by decide

section
variable {s : State}

theorem State.freeOrdinary_eq_none_iff : s.freeOrdinary = none ↔ ∀ c, c ≠ .p → (s.chan c).state ≠ .free := by
  simp only [State.freeOrdinary, List.find?_eq_none, mem_ordinaryChans_iff_ne, beq_iff_eq]

/-- The channels before `c` in the list of ordinary channels are those with a lower number. -/
theorem State.freeOrdinary_eq_some {c : Chan} (hc : c ≠ .p) (hf : (s.chan c).state = .free)
    (hlow : ∀ d, d ≠ .p → d.code < c.code → (s.chan d).state ≠ .free) : s.freeOrdinary = some c := by
  obtain ⟨lower, upper, hsplit⟩ := List.append_of_mem (mem_ordinaryChans_iff_ne.2 hc)
  have hasc := ordinaryChans_ascending
  rw [hsplit, List.pairwise_append] at hasc
  obtain ⟨-, -, hlower⟩ := hasc
  refine List.find?_eq_some_iff_append.2 ⟨by simp [hf], lower, upper, hsplit, fun d hd => ?_⟩
  have hne : d ≠ .p := mem_ordinaryChans_iff_ne.1 (by simp [hsplit, hd])
  simp [hlow d hne (hlower d hd c List.mem_cons_self)]

theorem State.belowMaxLive_eq_false_iff :
    s.belowMaxLive = false ↔ ∀ ctx, s.active = some ctx → ctx.maxLive ≤ s.speakers.length := by
  unfold State.belowMaxLive
  cases s.active <;> simp

theorem State.room_eq_none_iff : s.room = none ↔
    (∀ ctx, s.active = some ctx → ctx.maxLive ≤ s.speakers.length) ∨ ∀ c, c ≠ .p → (s.chan c).state ≠ .free := by
  rw [← State.belowMaxLive_eq_false_iff, ← State.freeOrdinary_eq_none_iff, State.room]
  cases s.belowMaxLive <;> simp

theorem State.room_eq_some {ctx : Context} {c : Chan} (ha : s.active = some ctx) (hl : s.speakers.length < ctx.maxLive) (hc : c ≠ .p)
    (hf : (s.chan c).state = .free) (hlow : ∀ d, d ≠ .p → d.code < c.code → (s.chan d).state ≠ .free) : s.room = some c := by
  have hbelow : s.belowMaxLive = true := by simp [State.belowMaxLive, ha, hl]
  rw [State.room, if_pos hbelow, State.freeOrdinary_eq_some hc hf hlow]

/-! ### Grants from the head (R88, R90) -/

theorem State.grantHeads_of_empty (k : Nat) (h : s.waiting = []) : State.grantHeads k s = s := by
  cases k <;> simp [State.grantHeads, h]

theorem State.grantHeads_of_no_room (k : Nat) (h : s.room = none) : State.grantHeads k s = s := by
  cases k <;> simp [State.grantHeads, h]

theorem State.grantHeads_succ {e : WaitEntry} {rest : List WaitEntry} {c : Chan} (hw : s.waiting = e :: rest) (hr : s.room = some c)
    (k : Nat) : State.grantHeads (k + 1) s = State.grantHeads k ({ s with waiting := rest }.grant c e.seat true) := by
  rw [State.grantHeads, hw, hr]

/-- The three ways in which granting up to `k + 1` heads can go on. -/
theorem State.grantHeads_step (s : State) : s.waiting = [] ∨ s.room = none ∨
    ∃ e rest c, s.waiting = e :: rest ∧ s.room = some c := by
  cases hw : s.waiting with
  | nil => exact .inl rfl
  | cons e rest => cases hr : s.room with
    | none => exact .inr (.inl rfl)
    | some c => exact .inr (.inr ⟨e, rest, c, rfl, rfl⟩)

/-- R88, R90: heads are granted in order, each becoming the youngest speaker. -/
theorem State.grantHeads_takes (k : Nat) (s : State) : ∃ j, j ≤ k ∧ (State.grantHeads k s).waiting = s.waiting.drop j ∧
    (State.grantHeads k s).speakers.map Speaker.seat = s.speakers.map Speaker.seat ++ (s.waiting.take j).map WaitEntry.seat := by
  induction k generalizing s with
  | zero => exact ⟨0, le_rfl, rfl, by simp [State.grantHeads]⟩
  | succ k ih =>
    obtain hw | hr | ⟨e, rest, c, hw, hr⟩ := s.grantHeads_step
    · exact ⟨0, Nat.zero_le _, by simp [State.grantHeads_of_empty _ hw], by simp [State.grantHeads_of_empty _ hw]⟩
    · exact ⟨0, Nat.zero_le _, by simp [State.grantHeads_of_no_room _ hr], by simp [State.grantHeads_of_no_room _ hr]⟩
    · obtain ⟨gw, gs, -, -⟩ := State.grant_lists { s with waiting := rest } c e.seat true
      obtain ⟨j, hj, hwait, hspeak⟩ := ih ({ s with waiting := rest }.grant c e.seat true)
      rw [gw] at hwait hspeak
      rw [gs, if_pos (State.room_free hr).1] at hspeak
      rw [State.grantHeads_succ hw hr]
      exact ⟨j + 1, Nat.succ_le_succ hj, by simpa [hw] using hwait, by simpa [hw] using hspeak⟩

/-- R88: with as many grants as there are entries, the list is emptied or the room is used up. -/
theorem State.grantHeads_exhausts {k : Nat} (hk : s.waiting.length ≤ k) :
    (State.grantHeads k s).waiting = [] ∨ (State.grantHeads k s).room = none := by
  induction k generalizing s with
  | zero => exact .inl (List.eq_nil_of_length_eq_zero (Nat.le_zero.1 hk))
  | succ k ih =>
    obtain hw | hr | ⟨e, rest, c, hw, hr⟩ := s.grantHeads_step
    · exact .inl (by rw [State.grantHeads_of_empty _ hw, hw])
    · exact .inr (by rw [State.grantHeads_of_no_room _ hr, hr])
    · rw [State.grantHeads_succ hw hr]
      refine ih ?_
      rw [(State.grant_lists _ _ _ _).1]
      rw [hw, List.length_cons] at hk
      exact Nat.le_of_succ_le_succ hk

/-! ### Fill (R88) -/

theorem State.fills_iff {ctx : Context} (ha : s.active = some ctx) :
    s.fills = true ↔ s.floor = .opened ∧ (ctx.mode = .queued ∨ ctx.mode = .override) := by
  simp [State.fills, ha]

theorem State.fill_of_fills (h : s.fills = true) : s.fill = State.grantHeads s.waiting.length s := by rw [State.fill, if_pos h]

theorem State.fill_of_mode {ctx : Context} (ha : s.active = some ctx)
    (h : ctx.mode = .direct ∨ ctx.mode = .moderated ∨ s.floor ≠ .opened) :
    s.fill = s := by
  refine s.fill_of_not_fills (Bool.eq_false_iff.2 fun hf => ?_)
  obtain ⟨hopen, hmode⟩ := (State.fills_iff ha).1 hf
  obtain hd | hm | hclosed := h
  · simp [hd] at hmode
  · simp [hm] at hmode
  · exact hclosed hopen

theorem State.fill_of_no_context (ha : s.active = none) : s.fill = s := s.fill_of_not_fills (by simp [State.fills, ha])

/-- R88: after a fill nobody waits or there is no room. -/
theorem State.fill_exhausts {ctx : Context} (ha : s.active = some ctx) (hf : s.fills = true) :
    s.fill.waiting = [] ∨ ctx.maxLive ≤ s.fill.speakers.length ∨ ∀ c, c ≠ .p → (s.fill.chan c).state ≠ .free := by
  have hactive : s.fill.active = some ctx := (State.active_of_frozen s.frozen_fill).trans ha
  have hdone : s.fill.waiting = [] ∨ s.fill.room = none := by rw [State.fill_of_fills hf]; exact State.grantHeads_exhausts le_rfl
  exact hdone.imp_right fun hr => (State.room_eq_none_iff.1 hr).imp_left fun h => h ctx hactive

/-- R113: a channel reported at gain 0 that is still RELEASING becomes FREE, and fill follows. -/
theorem exec_channelFreed_due {c : Chan} (hc : c ∈ s.owed.freed) (hr : (s.chan c).state = .releasing) :
    exec (.channelFreed c) s = .next (s.freeChan c).fill := by
  have hdue : s.freedDue c = true := by simp [State.freedDue, hc, hr]
  exact congrArg Host.Outcome.next (if_pos hdue)

end

/-- Settles O33: grants from the head go on while somebody waits and there is room (`State.grantHeads_step`), and by induction on
their number the entries granted are the first of the list, all of them unless the room is used up. -/
theorem fillAndBatchGrantFromTheHead : Obligations.FillAndBatchGrantFromTheHead := by
  refine ⟨fun s c hc hr => exec_channelFreed_due hc hr, fun s k => ⟨?_, ?_, s.grantHeads_takes k⟩, fun s ctx ha => ⟨?_, ?_⟩,
    fun s ha => State.fill_of_no_context ha⟩
  · rintro (rfl | hw | hfree | hlive)
    · rfl
    · exact State.grantHeads_of_empty k hw
    · exact State.grantHeads_of_no_room k (State.room_eq_none_iff.2 (.inr hfree))
    · exact State.grantHeads_of_no_room k (State.room_eq_none_iff.2 (.inl hlive))
  · intro e rest ctx c hw ha hl hc hf hlow
    exact State.grantHeads_succ hw (State.room_eq_some ha hl hc hf hlow) k
  · intro hmode hopen
    have hf : s.fills = true := (State.fills_iff ha).2 ⟨hopen, hmode⟩
    exact ⟨State.fill_of_fills hf, State.fill_exhausts ha hf⟩
  · exact State.fill_of_mode ha

end Sys2Proof.Machine
end

section
/-! ## Joining and leaving the waiting list (R75, R76) -/

namespace Sys2Proof.Machine

/-- R75, R76: what joining the list and leaving it share: the new list, the seat's place, and the notice. -/
def State.relist (s : State) (l : List WaitEntry) (n : Nat) (p : Place) (x : Notice) : State :=
  ((s.withWaiting l).setPlace n p none).raise x

theorem State.insertWaiting_eq_relist (s : State) (n k i : Nat) :
    s.insertWaiting n k i = s.relist (s.waiting.insertIdx i { seat := n, sweep := k }) n .waiting (.queued n (i + 1)) := rfl

theorem State.removeWaiting_eq_relist (s : State) (n : Nat) (r : Reason) :
    s.removeWaiting n r = s.relist (s.waiting.filter fun e => e.seat != n) n .idle (.dequeued n r) := rfl

/-- An entry joins a list between those before its place and those from it on. -/
theorem insertIdx_eq_take_append {α : Type} (x : α) (l : List α) {i : Nat} (hi : i ≤ l.length) :
    l.insertIdx i x = l.take i ++ x :: l.drop i := by
  obtain ⟨before, behind, rfl, rfl, hins⟩ := List.exists_of_modifyTailIdx (List.cons x) hi
  rw [List.insertIdx, hins, List.take_left, List.drop_left]

/-- What raised notices leave depends on the notices, the mark, the count and the settings alone. -/
theorem State.hasRaised_congr {s u t : State} (h : u.noticeView = s.noticeView) {l : List Notice} (hr : u.HasRaised t l) :
    s.HasRaised t l := by
  have hview := State.noticeView_congr h l
  simp only [State.noticeView, Prod.mk.injEq] at hview
  obtain ⟨-, hnotices, hoverrun, hlost⟩ := hview
  obtain ⟨rn, ro, rl⟩ := hr
  exact ⟨rn.trans hnotices, ro.trans hoverrun, rl.trans hlost⟩

section
variable (s : State) (l : List WaitEntry) (n : Nat) (p : Place) (x : Notice)

theorem State.relist_hasRaised : s.HasRaised (s.relist l n p x) [x] :=
  State.hasRaised_of_view (s := s) (t := (s.withWaiting l).setPlace n p none) (State.noticeView_updSeat (s.withWaiting l) n _) [x]

/-- Nothing changes but the list, the seat and the notices. -/
theorem State.relist_eq : s.relist l n p x =
    { s with waiting := (s.relist l n p x).waiting, seats := (s.relist l n p x).seats, notices := (s.relist l n p x).notices,
             overrun := (s.relist l n p x).overrun, lostCount := (s.relist l n p x).lostCount } := by
  have hraise := State.sansNotices_eq (((s.withWaiting l).setPlace n p none).sansNotices_raise x)
  have hw : (s.relist l n p x).waiting = ((s.withWaiting l).setPlace n p none).waiting := by simp [State.relist]
  have hs : (s.relist l n p x).seats = ((s.withWaiting l).setPlace n p none).seats := by simp [State.relist]
  rw [hw, hs]
  cases n <;> exact hraise

end

section
variable {n : Nat} (hn : n ∈ seatNumbers)
include hn

/-- R75: everything that joining the list does. -/
theorem State.insertWaiting_effect {s : State} (hl : s.seats.length = 200) (k : Nat) {i : Nat} (hi : i ≤ s.waiting.length) :
    ∃ t, s.insertWaiting n k i = t ∧ t.waiting = s.waiting.take i ++ { seat := n, sweep := k } :: s.waiting.drop i ∧
      t.seat n = { s.seat n with place := .waiting, bound := none } ∧ s.OtherSeatsKept t n ∧ s.HasRaised t [.queued n (i + 1)] ∧
      t = { s with waiting := t.waiting, seats := t.seats, notices := t.notices, overrun := t.overrun, lostCount := t.lostCount } := by
  obtain ⟨h1, h2⟩ := mem_seatNumbers.1 hn
  have hraised := s.relist_hasRaised (s.waiting.insertIdx i { seat := n, sweep := k }) n .waiting (.queued n (i + 1))
  have heq := s.relist_eq (s.waiting.insertIdx i { seat := n, sweep := k }) n .waiting (.queued n (i + 1))
  rw [← State.insertWaiting_eq_relist] at hraised heq
  refine ⟨_, rfl, ?_, s.insertWaiting_seat_same k i h1 (hl ▸ h2), fun m hm => s.insertWaiting_seat_ne k i hm, hraised, heq⟩
  rw [(s.insertWaiting_lists n k i).1, insertIdx_eq_take_append _ _ hi]

/-- R76: everything that leaving the list without a grant does. -/
theorem State.removeWaiting_effect {s : State} (hl : s.seats.length = 200) (r : Reason) :
    ∃ t, s.removeWaiting n r = t ∧ t.seat n = { s.seat n with place := .idle, bound := none } ∧ s.OtherSeatsKept t n ∧
      t.waiting = s.waiting.filter (fun e => e.seat != n) ∧ s.HasRaised t [.dequeued n r] ∧
      t = { s with seats := t.seats, waiting := t.waiting, notices := t.notices, overrun := t.overrun, lostCount := t.lostCount } := by
  obtain ⟨h1, h2⟩ := mem_seatNumbers.1 hn
  have hraised := s.relist_hasRaised (s.waiting.filter fun e => e.seat != n) n .idle (.dequeued n r)
  have heq := s.relist_eq (s.waiting.filter fun e => e.seat != n) n .idle (.dequeued n r)
  rw [← State.removeWaiting_eq_relist] at hraised heq
  exact ⟨_, rfl, s.removeWaiting_seat_same r h1 (hl ▸ h2), fun m hm => s.removeWaiting_seat_ne r hm, (s.removeWaiting_lists n r).1,
    hraised, heq⟩

end

end Sys2Proof.Machine
end

section
/-! ## GRANT, ENQUEUE, REMOVE and SET_GENERAL (R76, R79, R93, R95, R96, R168) -/

namespace Sys2Proof.Machine

/-! ### What a dispatched directive does -/

section
variable {s : State} {tag : Byte} {rest : List Entry}

theorem exec_grant_due {n : Nat} (h : s.Dispatching tag (.grant n) rest) :
    exec .grant s = .next ((s.withBuffer rest).operatorGrant tag n) :=
  congrArg Host.Outcome.next (State.dispatch_due h _)

theorem exec_enqueue_due {n pos : Nat} (h : s.Dispatching tag (.enqueue n pos) rest) :
    exec .enqueue s = .next ((s.withBuffer rest).operatorEnqueue tag n pos) :=
  congrArg Host.Outcome.next (State.dispatch_due h _)

theorem exec_remove_due {n : Nat} (h : s.Dispatching tag (.remove n) rest) :
    exec .remove s = .next ((s.withBuffer rest).operatorRemove tag n) :=
  congrArg Host.Outcome.next (State.dispatch_due h _)

theorem exec_setGeneral_due {r : GeneralRecord} (h : s.Dispatching tag (.setGeneral r) rest) :
    exec .setGeneral s = .next ((s.withBuffer rest).setGeneral tag r) :=
  congrArg Host.Outcome.next (State.dispatch_due h _)

end

/-- Settles O51: `State.setGeneral` is the load, the fill and the reply. -/
theorem setGeneralLoadsSettings : Obligations.SetGeneralLoadsSettings :=
  fun _ _ _ _ _ h => exec_setGeneral_due h

section
variable {s : State} (tag : Byte) {n : Nat}

/-! ### GRANT (R93) -/

theorem State.operatorGrant_of_closed (hf : s.floor = .closed) : s.operatorGrant tag n = s.reply tag (.refused .floorClosed) := by
  rw [State.operatorGrant, if_pos hf]

theorem State.operatorGrant_of_held (hf : s.floor = .held) : s.operatorGrant tag n = s.reply tag (.refused .floorHeld) := by
  simp [State.operatorGrant, hf]

section
variable (ho : s.floor = .opened)
include ho

theorem State.operatorGrant_of_down (ht : s.trunk = .down) : s.operatorGrant tag n = s.reply tag (.refused .trunkDown) := by
  simp [State.operatorGrant, ho, ht]

section
variable (ht : s.trunk = .up)
include ht

theorem State.operatorGrant_of_not_eligible (he : s.eligible n = false) :
    s.operatorGrant tag n = s.reply tag (.refused .notEligible) := by
  simp [State.operatorGrant, ho, ht, he]

section
variable (he : s.eligible n = true)
include he

theorem State.operatorGrant_of_live {c : Chan} (hb : (s.seat n).bound = some c) :
    s.operatorGrant tag n = s.reply tag (.granted c false) := by
  simp [State.operatorGrant, ho, ht, he, hb]

theorem State.operatorGrant_of_not_live (hb : (s.seat n).bound = none) : s.operatorGrant tag n = s.grantByOperator tag n := by
  simp [State.operatorGrant, ho, ht, he, hb]

end

end

end

theorem State.grantByOperator_of_no_room (hr : s.room = none) : s.grantByOperator tag n = s.reply tag (.refused .noChannel) := by
  rw [State.grantByOperator, hr]

theorem State.grantByOperator_of_waiting {c : Chan} (hr : s.room = some c) (hp : (s.seat n).place = .waiting) :
    s.grantByOperator tag n = ((s.leaveSilently n).grant c n true).reply tag (.granted c true) := by
  simp [State.grantByOperator, hr, hp]

/-- A seat that is not listed leaves the list as it was. -/
theorem State.grantByOperator_of_idle {c : Chan} (hr : s.room = some c) (hp : (s.seat n).place = .idle)
    (hw : n ∉ s.waiting.map WaitEntry.seat) : s.grantByOperator tag n = (s.grant c n false).reply tag (.granted c false) := by
  have hlist : s.leaveSilently n = s := State.leaveSilently_not_listed fun e he hn => hw (hn ▸ List.mem_map_of_mem he)
  rw [State.grantByOperator, hr]
  simp only [hp, hlist]
  rfl

end

/-- Settles O34: one equation for each row, in the state with the directive taken off the buffer. -/
theorem operatorGrantTakesFirstRow : Obligations.OperatorGrantTakesFirstRow := by
  intro s tag n rest h
  rw [exec_grant_due h]
  refine ⟨fun hf => ?_, fun hf => ?_, fun ho ht => ?_, fun ho ht he => ?_,
    fun ho ht he => ⟨fun c _ hb => ?_, fun hb hr => ?_, fun c hb hr hp => ?_, fun c hb hr hp hw => ?_⟩⟩
  · exact congrArg _ (State.operatorGrant_of_closed (s := s.withBuffer rest) tag hf)
  · exact congrArg _ (State.operatorGrant_of_held (s := s.withBuffer rest) tag hf)
  · exact congrArg _ (State.operatorGrant_of_down (s := s.withBuffer rest) tag ho ht)
  · exact congrArg _ (State.operatorGrant_of_not_eligible (s := s.withBuffer rest) tag ho ht he)
  · exact congrArg _ (State.operatorGrant_of_live (s := s.withBuffer rest) tag ho ht he hb)
  all_goals rw [State.operatorGrant_of_not_live (s := s.withBuffer rest) tag ho ht he hb]
  · exact congrArg _ (State.grantByOperator_of_no_room (s := s.withBuffer rest) tag hr)
  · exact congrArg _ (State.grantByOperator_of_waiting (s := s.withBuffer rest) tag hr hp)
  · exact congrArg _ (State.grantByOperator_of_idle (s := s.withBuffer rest) tag hr hp hw)

/-! ### ENQUEUE (R95) -/

/-- R95: the fitted position, told by the three cases of the position asked for. -/
theorem fitPosition_eq {length pos p : Nat} (h0 : pos = 0 → p = 1) (hin : 1 ≤ pos → pos ≤ length + 1 → p = pos)
    (hout : length + 1 < pos → p = length + 1) : fitPosition length pos = p := by
  unfold fitPosition clamp
  omega

theorem fitPosition_le (length pos : Nat) : fitPosition length pos - 1 ≤ length := by
  unfold fitPosition clamp
  omega

section
variable {s : State} (tag : Byte) {n : Nat} (pos : Nat)

theorem State.operatorEnqueue_of_closed (hf : s.floor = .closed) :
    s.operatorEnqueue tag n pos = s.reply tag (.refused .floorClosed) := by
  rw [State.operatorEnqueue, if_pos hf]

section
variable (hf : s.floor ≠ .closed)
include hf

theorem State.operatorEnqueue_of_unfit (h : s.eligible n = false ∨ (s.seat n).place ≠ .idle) :
    s.operatorEnqueue tag n pos = s.reply tag (.refused .notEligible) := by
  have hrow : ¬((s.eligible n && (s.seat n).place == .idle) = true) := by
    obtain he | hp := h
    · simp [he]
    · simp [hp]
  rw [State.operatorEnqueue, if_neg hf, if_neg hrow]

section
variable (he : s.eligible n = true) (hp : (s.seat n).place = .idle) {c : Context} (ha : s.active = some c)
include he hp ha

theorem State.operatorEnqueue_of_direct (hm : c.mode = .direct) : s.operatorEnqueue tag n pos = s.reply tag (.refused .noRoom) := by
  simp [State.operatorEnqueue, hf, he, hp, ha, hm]

theorem State.operatorEnqueue_of_full (hm : c.mode ≠ .direct) (hw : c.listLimit ≤ s.waiting.length) :
    s.operatorEnqueue tag n pos = s.reply tag (.refused .listFull) := by
  simp [State.operatorEnqueue, hf, he, hp, ha, hm, Nat.not_lt.2 hw]

theorem State.operatorEnqueue_of_place (hm : c.mode ≠ .direct) (hw : s.waiting.length < c.listLimit) :
    s.operatorEnqueue tag n pos = s.enqueueAt tag n (fitPosition s.waiting.length pos) := by
  simp [State.operatorEnqueue, hf, he, hp, ha, hm, hw]

end

end

end

/-! ### REMOVE (R96) -/

section
variable {s : State} (tag : Byte) {n : Nat}

theorem State.operatorRemove_of_waiting (hp : (s.seat n).place = .waiting) :
    s.operatorRemove tag n = (s.removeWaiting n .removed).reply tag .done := by
  rw [State.operatorRemove, hp]

theorem State.operatorRemove_of_not_waiting (hp : (s.seat n).place ≠ .waiting) :
    s.operatorRemove tag n = s.reply tag (.refused .notFound) := by
  unfold State.operatorRemove
  split
  · next hw => exact absurd hw hp
  · rfl
  · rfl

end

/-- R73: with the list empty no seat waits. -/
theorem State.FloorAgrees.not_waiting_of_empty {s : State} (h : s.FloorAgrees) {n : Nat} (hn : n ∈ seatNumbers) (hw : s.waiting = []) :
    (s.seat n).place ≠ .waiting := by
  obtain ⟨-, hlisted, -⟩ := h.places n hn
  rw [ne_eq, hlisted, hw]
  exact List.not_mem_nil

/-- Settles O38: what a removal does (`State.removeWaiting_effect`), and one equation for each row of ENQUEUE and of REMOVE. -/
theorem enqueueAndRemoveSeat : Obligations.EnqueueAndRemoveSeat := by
  refine ⟨fun s n r hn hl => State.removeWaiting_effect hn hl r, fun s tag n pos rest h => ?_, fun s tag n rest h => ?_⟩
  · rw [exec_enqueue_due h]
    refine ⟨fun hf => ?_, fun hf hu => ?_, fun c hf he hp ha => ⟨fun hm => ?_, fun hm hw => ?_, fun p hm hw h0 hin hout => ?_⟩⟩
    · exact congrArg _ (State.operatorEnqueue_of_closed (s := s.withBuffer rest) tag pos hf)
    · exact congrArg _ (State.operatorEnqueue_of_unfit (s := s.withBuffer rest) tag pos hf hu)
    · exact congrArg _ (State.operatorEnqueue_of_direct (s := s.withBuffer rest) tag pos hf he hp ha hm)
    · exact congrArg _ (State.operatorEnqueue_of_full (s := s.withBuffer rest) tag pos hf he hp ha hm hw)
    · have hpos : fitPosition s.waiting.length pos = p := fitPosition_eq h0 hin hout
      have hle : p - 1 ≤ s.waiting.length := hpos ▸ fitPosition_le _ _
      constructor
      · rw [State.operatorEnqueue_of_place (s := s.withBuffer rest) tag pos hf he hp ha hm hw, State.withBuffer_waiting, hpos]
        rfl
      · rw [(State.insertWaiting_lists _ _ _ _).1, State.withBuffer_waiting, List.getElem?_insertIdx_self, if_pos hle]
  · rw [exec_remove_due h]
    have hrefused := State.operatorRemove_of_not_waiting (s := s.withBuffer rest) tag (n := n)
    refine ⟨fun hp hn hl => ?_, fun hp => congrArg _ (hrefused hp),
      fun hag hn hw => congrArg _ (hrefused (hag.not_waiting_of_empty hn hw))⟩
    obtain ⟨t, ht, hseat, hothers, hwait, hraised, heq⟩ := State.removeWaiting_effect (s := s.withBuffer rest) hn hl .removed
    refine ⟨t.reply tag .done, ?_, hseat, hothers, hwait, State.hasRaised_congr (s := s) (u := s.withBuffer rest) rfl hraised,
      congrArg (fun u : State => u.reply tag .done) heq⟩
    rw [State.operatorRemove_of_waiting (s := s.withBuffer rest) tag hp, ht]

end Sys2Proof.Machine
end

section
/-! ## Requests and withdraws (R75, R81 to R87) -/

namespace Sys2Proof.Machine

/-- R51: the action of the next slot is answered with that slot gone from the presentation. -/
theorem exec_command_due {s : State} {k n : Nat} {ev : KeyEvent} {a : KeyAct} {rest : List KeySlot} (h : s.Presenting k n ev a rest) :
    exec (a.command n) s = .next ((s.keepSlots k rest).answer a n k).closePresentation := by
  rw [exec_command, State.present_due h]

theorem exec_request_due {s : State} {k n : Nat} {ev : KeyEvent} {rest : List KeySlot} (h : s.Presenting k n ev .request rest) :
    exec (.request n) s = .next ((s.keepSlots k rest).judgeRequest n k).closePresentation := exec_command_due h

theorem exec_withdraw_due {s : State} {k n : Nat} {ev : KeyEvent} {rest : List KeySlot} (h : s.Presenting k n ev .withdraw rest) :
    exec (.withdraw n) s = .next ((s.keepSlots k rest).judgeWithdraw n).closePresentation := exec_command_due h

/-! ### Withdraws (R87) -/

section
variable {s : State} {n : Nat}

theorem State.judgeWithdraw_of_waiting (hp : (s.seat n).place = .waiting) : s.judgeWithdraw n = s.removeWaiting n .withdrawn := by
  rw [State.judgeWithdraw, hp]

theorem State.judgeWithdraw_of_live {c : Chan} (hc : c ≠ .p) (hp : (s.seat n).place = .live) (hb : (s.seat n).bound = some c) :
    s.judgeWithdraw n = (s.release c n .withdrawn).fill := by
  rw [State.judgeWithdraw, hp]
  exact State.endSeat_of_ordinary .withdrawn hb hc

end

/-- Settles O25: a withdraw is answered by the seat's place (`State.judgeWithdraw_of_waiting`, `State.judgeWithdraw_of_live`). -/
theorem withdrawLeavesFloor : Obligations.WithdrawLeavesFloor := by
  intro s k n ev rest h
  rw [exec_withdraw_due h]
  refine ⟨fun hp => ?_, fun c hc hp hb => ?_⟩
  · rw [State.judgeWithdraw_of_waiting (s := s.keepSlots k rest) hp]
  · rw [State.judgeWithdraw_of_live (s := s.keepSlots k rest) hc hp hb]

section
variable {s : State} {n k : Nat} {c : Context}

/-! ### The rows of R81 to R83 -/

theorem State.judgeRequest_of_closed (hf : s.floor = .closed) : s.judgeRequest n k = s.raise (.denied n .floorClosed) := by
  rw [State.judgeRequest, if_pos hf]

theorem State.judgeRequest_of_flagged (hf : s.floor ≠ .closed) (hg : (s.seat n).flagged = true) :
    s.judgeRequest n k = s.raise (.denied n .flagged) := by
  rw [State.judgeRequest, if_neg hf, if_pos hg]

theorem State.judgeRequest_of_not_eligible (hf : s.floor ≠ .closed) (hg : (s.seat n).flagged = false) (he : s.eligible n = false) :
    s.judgeRequest n k = s.raise (.denied n .notAdmitted) := by
  simp [State.judgeRequest, hf, hg, he]

/-- R80: an eligible seat is not flagged. -/
theorem State.not_flagged_of_eligible (he : s.eligible n = true) : (s.seat n).flagged = false := by
  simp only [State.eligible, Bool.and_eq_true, Bool.not_eq_true'] at he
  obtain ⟨⟨-, hflag⟩, -⟩ := he
  exact hflag

section
variable (he : s.eligible n = true) (ha : s.active = some c)
include he ha

theorem State.judgeRequest_of_held (hf : s.floor = .held) : s.judgeRequest n k = s.requestHeld c n k := by
  simp [State.judgeRequest, hf, State.not_flagged_of_eligible he, he, ha]

theorem State.judgeRequest_of_opened (hf : s.floor = .opened) : s.judgeRequest n k = s.requestOpen c n k := by
  simp [State.judgeRequest, hf, State.not_flagged_of_eligible he, he, ha]

end

/-- R82: the rows in which a request takes the room there is. -/
theorem State.requestOpen_of_room {ch : Chan} (hr : s.room = some ch)
    (hm : c.mode = .direct ∨ (c.mode = .queued ∧ s.waiting = []) ∨ c.mode = .override) :
    s.requestOpen c n k = s.grant ch n false := by
  obtain hd | ⟨hq, hw⟩ | ho := hm
  · simp [State.requestOpen, hd, hr]
  · simp [State.requestOpen, hq, hr, hw]
  · simp [State.requestOpen, ho, hr]

theorem State.requestOpen_of_direct_full (hr : s.room = none) (hm : c.mode = .direct) :
    s.requestOpen c n k = s.raise (.denied n .noRoom) := by
  rw [State.requestOpen, hm, hr]

theorem State.requestOpen_of_override_full (hr : s.room = none) (hm : c.mode = .override) :
    s.requestOpen c n k = s.displace c n k := by
  rw [State.requestOpen, hm, hr]

/-- R82, R85: the rows in which a request with the floor OPEN is to join the list. -/
theorem State.requestOpen_of_join (hm : c.mode = .moderated ∨ (c.mode = .queued ∧ (s.room = none ∨ s.waiting ≠ [])) ∨
    (c.mode = .override ∧ s.room = none ∧ ∀ e ∈ s.speakers, s.isChair e.seat = true)) :
    s.requestOpen c n k = s.joinList c n k := by
  obtain hmod | ⟨hq, hfull⟩ | ⟨ho, hr, hchairs⟩ := hm
  · simp [State.requestOpen, hmod]
  · cases hr : s.room with
    | none => simp [State.requestOpen, hq, hr]
    | some ch =>
      have hw : s.waiting ≠ [] := hfull.resolve_left (by simp [hr])
      simp [State.requestOpen, hq, hr, hw]
  · have hnone : (s.speakers.find? fun e => !s.isChair e.seat) = none := List.find?_eq_none.2 fun e he => by simp [hchairs e he]
    rw [State.requestOpen_of_override_full hr ho, State.displace, hnone]

/-- R82, R83: a request that is to join the list, the floor HELD or OPEN. -/
theorem State.judgeRequest_of_join (he : s.eligible n = true) (ha : s.active = some c) (hd : c.mode ≠ .direct)
    (h : s.floor = .held ∨ (s.floor = .opened ∧
      (c.mode = .moderated ∨ (c.mode = .queued ∧ (s.room = none ∨ s.waiting ≠ [])) ∨
        (c.mode = .override ∧ s.room = none ∧ ∀ e ∈ s.speakers, s.isChair e.seat = true)))) :
    s.judgeRequest n k = s.joinList c n k := by
  obtain hf | ⟨hf, hm⟩ := h
  · rw [State.judgeRequest_of_held he ha hf, State.requestHeld, if_neg hd]
  · rw [State.judgeRequest_of_opened he ha hf, State.requestOpen_of_join hm]

/-! ### The place in the list (R74, R75) -/

/-- R74: outside DIRECT the capacity is the list limit. -/
theorem Context.capacity_of_listed (hd : c.mode ≠ .direct) : c.capacity = c.listLimit := if_neg hd

section
variable (hd : c.mode ≠ .direct)
include hd

theorem State.joinList_of_no_places (hl : c.listLimit = 0) : s.joinList c n k = s.raise (.denied n .noRoom) := by
  rw [State.joinList, Context.capacity_of_listed hd, if_pos hl]

theorem State.joinList_of_full (hl : 0 < c.listLimit) (hw : c.listLimit ≤ s.waiting.length) :
    s.joinList c n k = s.raise (.denied n .listFull) := by
  rw [State.joinList, Context.capacity_of_listed hd, if_neg hl.ne', if_neg (Nat.not_lt.2 hw)]

theorem State.joinList_of_place (hw : s.waiting.length < c.listLimit) :
    s.joinList c n k = s.insertWaiting n k (s.joinIndex c n) := by
  rw [State.joinList, Context.capacity_of_listed hd, if_neg (Nat.ne_zero_of_lt hw), if_pos hw]

end

theorem State.joinIndex_of_tail (h : c.chairFirst = false ∨ s.isChair n = false) : s.joinIndex c n = s.waiting.length := by
  unfold State.joinIndex
  exact if_neg (by simpa using fun hc => h.resolve_left (by simp [hc]))

/-- R75: a CHAIR that comes first joins behind the entries up to the last CHAIR's. -/
theorem State.joinIndex_of_chair (hc : c.chairFirst = true) (hn : s.isChair n = true) :
    s.joinIndex c n = (s.waiting.rdropWhile fun e => !s.isChair e.seat).length := by
  have hlen : (s.waiting.rdropWhile fun e => !s.isChair e.seat).length + (s.waiting.rtakeWhile fun e => !s.isChair e.seat).length =
      s.waiting.length := by
    rw [← List.length_append, List.rdropWhile_append_rtakeWhile]
  rw [List.rtakeWhile, List.length_reverse] at hlen
  rw [State.joinIndex, if_pos (by simp [hc, hn])]
  omega

/-- R75: no CHAIR stands behind the place where a CHAIR joins, and one stands directly before it unless it is the head. -/
theorem State.joinIndex_after_last_chair (hc : c.chairFirst = true) (hn : s.isChair n = true) :
    (∀ e ∈ s.waiting.drop (s.joinIndex c n), s.isChair e.seat = false) ∧
      (s.joinIndex c n = 0 ∨ ∃ e, s.waiting[s.joinIndex c n - 1]? = some e ∧ s.isChair e.seat = true) := by
  rw [State.joinIndex_of_chair hc hn]
  have hsplit := List.rdropWhile_append_rtakeWhile (p := fun e : WaitEntry => !s.isChair e.seat) (l := s.waiting)
  have hlast : ∀ hne, s.isChair ((s.waiting.rdropWhile fun e => !s.isChair e.seat).getLast hne).seat = true :=
    fun hne => by simpa using List.rdropWhile_last_not _ _ hne
  generalize s.waiting.rdropWhile (fun e => !s.isChair e.seat) = front at hsplit hlast ⊢
  constructor
  · rw [← hsplit, List.drop_left]
    exact fun e he => by simpa using List.mem_rtakeWhile_imp he
  · obtain rfl | hne := eq_or_ne front []
    · exact .inl rfl
    · refine .inr ⟨_, ?_, hlast hne⟩
      have hlt := Nat.sub_lt (List.length_pos_iff.2 hne) Nat.one_pos
      rw [← hsplit, List.getElem?_append_left hlt, ← List.getLast?_eq_getElem?, List.getLast?_eq_some_getLast hne]

end

/-- Settles O22: one equation for each row of R81 to R83 that denies or grants. -/
theorem requestIsDeniedOrGranted : Obligations.RequestIsDeniedOrGranted := by
  refine ⟨fun s k n ev rest h => ?_, fun s k n ev rest c h hf he ha => ?_⟩ <;> rw [exec_request_due h]
  · refine ⟨fun hf => ?_, fun hf hg => ?_, fun hf hg he => ?_, fun c hf he ha hm => ?_⟩
    · rw [State.judgeRequest_of_closed (s := s.keepSlots k rest) hf]
    · rw [State.judgeRequest_of_flagged (s := s.keepSlots k rest) hf hg]
    · rw [State.judgeRequest_of_not_eligible (s := s.keepSlots k rest) hf hg he]
    · rw [State.judgeRequest_of_held (s := s.keepSlots k rest) he ha hf, State.requestHeld, if_pos hm]
  · rw [State.judgeRequest_of_opened (s := s.keepSlots k rest) he ha hf]
    refine ⟨fun ch hr hm => ?_, fun hr hm => ?_⟩
    · rw [State.requestOpen_of_room (s := s.keepSlots k rest) hr hm]
    · rw [State.requestOpen_of_direct_full (s := s.keepSlots k rest) hr hm]

/-- Settles O23: the effect of an entry joining (`State.insertWaiting_effect`), the rows that lead to the list
(`State.judgeRequest_of_join`) and the place taken there (`State.joinIndex_after_last_chair`). -/
theorem requestJoinsWaitingList : Obligations.RequestJoinsWaitingList := by
  refine ⟨fun s n k i hn hl hi => State.insertWaiting_effect hn hl k hi, fun s k n ev rest c h he ha hd hrow => ?_⟩
  rw [exec_request_due h, State.judgeRequest_of_join (s := s.keepSlots k rest) he ha hd hrow]
  refine ⟨fun hl => ?_, fun hl hw => ?_, fun hw => ⟨s.joinIndex c n, s.joinIndex_le c n, ?_, State.joinIndex_of_tail,
    State.joinIndex_after_last_chair⟩⟩
  · rw [State.joinList_of_no_places hd hl]
  · rw [State.joinList_of_full (s := s.keepSlots k rest) hd hl hw]
  · rw [State.joinList_of_place (s := s.keepSlots k rest) hd hw]
    rfl

/-! ### Displacement (R85) -/

section
variable {s : State} {n k : Nat} {c : Context}

/-- R85, step 2. -/
theorem State.othersReleasing_iff :
    s.othersReleasing = true ↔ ∀ d, d ≠ .p → (∃ o ∈ s.speakers, o.chan = d) ∨ (s.chan d).state = .releasing := by
  simp only [State.othersReleasing, List.all_eq_true, mem_ordinaryChans_iff_ne, Bool.or_eq_true, List.any_eq_true, beq_iff_eq]

/-- R85, step 1: behind speakers who are all CHAIR, `e` is the oldest who is not. -/
theorem State.oldest_not_chair {old young : List Speaker} {e : Speaker} (hs : s.speakers = old ++ e :: young)
    (hold : ∀ o ∈ old, s.isChair o.seat = true) (he : s.isChair e.seat = false) :
    (s.speakers.find? fun o => !s.isChair o.seat) = some e :=
  List.find?_eq_some_iff_append.2 ⟨by simp [he], old, young, hs, fun o ho => by simp [hold o ho]⟩

section
variable {e : Speaker} (hfind : (s.speakers.find? fun o => !s.isChair o.seat) = some e)
include hfind

theorem State.displace_of_denied (hl : c.listLimit = 0) (ho : s.othersReleasing = true) :
    s.displace c n k = s.raise (.denied n .noRoom) := by
  simp [State.displace, hfind, hl, ho]

theorem State.displace_of_served (h : ¬(c.listLimit = 0 ∧ s.othersReleasing = true)) :
    s.displace c n k = (s.release e.chan e.seat .displaced).serveDisplacer c n k := by
  have hrow : ¬((s.othersReleasing && c.listLimit == 0) = true) := by
    rw [Bool.and_eq_true, beq_iff_eq, and_comm]
    exact h
  simp only [State.displace, hfind]
  rw [if_neg hrow]

end

theorem State.serveDisplacer_of_room {ch : Chan} (hr : s.room = some ch) :
    s.serveDisplacer c n k = (s.grant ch n false).fill := by
  rw [State.serveDisplacer, hr]

theorem State.serveDisplacer_of_no_room (hr : s.room = none) : s.serveDisplacer c n k = (s.insertHead c n k).fill := by
  rw [State.serveDisplacer, hr]

theorem State.insertHead_of_place (hw : s.waiting.length < c.capacity) : s.insertHead c n k = s.insertWaiting n k 0 := by
  rw [State.insertHead, if_pos hw]

/-- R85, step 5: the tail of a full list makes way. -/
theorem State.insertHead_of_full {tail : WaitEntry} (hw : c.capacity ≤ s.waiting.length) (ht : s.waiting.getLast? = some tail) :
    s.insertHead c n k = (s.removeWaiting tail.seat .truncated).insertWaiting n k 0 := by
  rw [State.insertHead, if_neg (Nat.not_lt.2 hw), ht]

end

/-- Settles O24: the request is one for a displacement (`State.requestOpen_of_override_full`), whose two outcomes are
`State.displace_of_denied` and `State.displace_of_served`; the End it makes leaves the list as it was. -/
theorem overrideRequestDisplaces : Obligations.OverrideRequestDisplaces := by
  intro s k n ev rest c old e young h hf he ha hm hr hs hold hchair
  have hfind : ((s.keepSlots k rest).speakers.find? fun o => !(s.keepSlots k rest).isChair o.seat) = some e :=
    State.oldest_not_chair hs hold hchair
  have hothers := State.othersReleasing_iff (s := s.keepSlots k rest)
  have hcap : c.capacity = c.listLimit := Context.capacity_of_listed (by simp [hm])
  rw [exec_request_due h, State.judgeRequest_of_opened (s := s.keepSlots k rest) he ha hf,
    State.requestOpen_of_override_full (s := s.keepSlots k rest) hr hm]
  refine ⟨fun hl ho => ?_, fun hserved => ⟨_, rfl, ?_⟩⟩
  · rw [State.displace_of_denied hfind hl (hothers.2 ho)]
  · rw [State.displace_of_served hfind fun hden => hserved ⟨hden.1, hothers.1 hden.2⟩]
    have hwait : ((s.keepSlots k rest).release e.chan e.seat .displaced).waiting = s.waiting := (State.release_lists _ _ _ _).1
    refine ⟨fun ch hroom => ?_, fun hroom hw => ?_, fun tail hroom hw ht => ?_⟩
    · rw [State.serveDisplacer_of_room hroom]
    · rw [State.serveDisplacer_of_no_room hroom, State.insertHead_of_place (by rwa [hwait, hcap])]
    · rw [State.serveDisplacer_of_no_room hroom, State.insertHead_of_full (by rwa [hwait, hcap]) (by rwa [hwait])]

end Sys2Proof.Machine
end

/-! # Channels and speaking time: EXTEND, Grant and the end of an intervention -/

section
/-! ## EXTEND (R119, R120) -/

namespace Sys2Proof.Machine

section
variable {s : State} {tag : Byte} {n secs : Nat}

theorem exec_extend_due {rest : List Entry} (h : s.Dispatching tag (.extend n secs) rest) :
    exec .extend s = .next ((s.withBuffer rest).operatorExtend tag n secs) :=
  congrArg Host.Outcome.next (State.dispatch_due h _)

/-! ### The rows of R119 -/

theorem State.operatorExtend_of_no_ordinary (hb : (s.seat n).bound = none ∨ (s.seat n).bound = some .p) :
    s.operatorExtend tag n secs = s.reply tag (.refused .notFound) := by
  unfold State.operatorExtend
  obtain hb | hb := hb <;> rw [hb]

section
variable {c : Chan} (hc : c ≠ .p) (hb : (s.seat n).bound = some c)
include hc hb

theorem State.operatorExtend_of_untimed (hr : (s.chan c).remaining = none) :
    s.operatorExtend tag n secs = s.reply tag (.refused .noTimer) := by
  unfold State.operatorExtend
  cases c with
  | p => exact absurd rfl hc
  | _ => simp only [hb, hr]

theorem State.operatorExtend_of_timed {r : Nat} (hr : (s.chan c).remaining = some r) :
    s.operatorExtend tag n secs = s.addTime tag c r secs := by
  unfold State.operatorExtend
  cases c with
  | p => exact absurd rfl hc
  | _ => simp only [hb, hr]

end

end

/-! ### The time added (R120) -/

section
variable (s : State) (tag : Byte) (c : Chan) (r secs : Nat)

theorem State.addTime_chan_same : (s.addTime tag c r secs).chan c =
    { s.chan c with
      remaining := some (min (r + secs * 500) 1800000),
      warned := s.warnedAfterExtend (s.chan c).warned (min (r + secs * 500) 1800000) } := by
  rw [State.addTime, State.chan_reply, State.chan_setChan_same]

theorem State.addTime_chan_ne {d : Chan} (hd : d ≠ c) : (s.addTime tag c r secs).chan d = s.chan d := by
  rw [State.addTime, State.chan_reply, State.chan_setChan_ne _ _ hd]

theorem State.warnedAfterExtend_iff {s : State} {ctx : Context} (ha : s.active = some ctx) (warned : Bool) :
    s.warnedAfterExtend warned r = true ↔ warned = true ∧ r ≤ ctx.warningLead * 500 := by
  simp [State.warnedAfterExtend, ha]

end

/-- Settles O37: the rows of R119 by the seat's bound channel and that channel's timer, the last of them being `State.addTime`. -/
theorem extendAddsTime : Obligations.ExtendAddsTime := by
  intro s tag n secs rest h
  rw [exec_extend_due h]
  refine ⟨fun hb => ?_, fun c hc hb hr => ?_, fun c r ctx hc hb hr ha => ?_⟩
  · rw [State.operatorExtend_of_no_ordinary (s := s.withBuffer rest) hb]
  · rw [State.operatorExtend_of_untimed (s := s.withBuffer rest) hc hb hr]
  · rw [State.operatorExtend_of_timed (s := s.withBuffer rest) hc hb hr]
    have hchan := (s.withBuffer rest).addTime_chan_same tag c r secs
    refine ⟨_, rfl, ?_, ?_, ?_, ?_, ?_, fun d hd => (s.withBuffer rest).addTime_chan_ne tag c r secs hd, rfl⟩
    · rw [hchan]
    · rw [hchan]
      exact State.warnedAfterExtend_iff (s := s.withBuffer rest) _ ha _
    all_goals rw [hchan]; rfl

end Sys2Proof.Machine
end

section
/-! ## What a Grant changes (R93, R104, R105) -/

namespace Sys2Proof.Machine

/-! ### The timing of a Grant (R105) -/

/-- R105: a Grant of channel `c` to seat `n` under the context `ctx` is timed. -/
def State.GrantTimed (s : State) (ctx : Context) (c : Chan) (n : Nat) : Prop :=
  c ≠ .p ∧ 0 < ctx.limit ∧ ((s.seat n).config.cls = .chair → ctx.chairTimed = true)

/-- R105: a Grant of channel `c` to seat `n` under the context `ctx` is made warned. -/
def State.GrantMadeWarned (s : State) (ctx : Context) (c : Chan) (n : Nat) : Prop :=
  s.GrantTimed ctx c n ∧ 0 < ctx.warningLead ∧ ctx.limit ≤ ctx.warningLead

section
variable {s : State} {ctx : Context} (ha : s.active = some ctx) {c : Chan} {n : Nat}
include ha

theorem State.grantTime_of_timed (h : s.GrantTimed ctx c n) : s.grantTime c n = some (ctx.limit * 500) := by
  obtain ⟨hc, hlimit, hchair⟩ := h
  have hordinary : c.isOrdinary = true := bne_iff_ne.2 hc
  have hclass : ¬(s.classOf n = .chair ∧ ctx.chairTimed = false) := fun ⟨hcls, hno⟩ => by simp [hchair hcls] at hno
  simp [State.grantTime, ha, hordinary, Context.allowance, Nat.ne_of_gt hlimit, hclass]

/-- A Grant is untimed on channel P, without a limit, and to a CHAIR whose time is not counted. -/
theorem State.grantTime_of_not_timed (h : ¬s.GrantTimed ctx c n) : s.grantTime c n = none := by
  by_cases hc : c = .p
  · rw [hc, State.grantTime_priority]
  · by_cases hlimit : ctx.limit = 0
    · simp [State.grantTime, ha, Context.allowance, hlimit]
    · have hclass : s.classOf n = .chair ∧ ctx.chairTimed = false := by
        by_contra hcls
        exact h ⟨hc, Nat.pos_of_ne_zero hlimit, fun hchair => by_contra fun hno => hcls ⟨hchair, Bool.eq_false_iff.2 hno⟩⟩
      simp [State.grantTime, ha, Context.allowance, hclass]

theorem State.grantWarned_iff : s.grantWarned c n = true ↔ s.GrantMadeWarned ctx c n := by
  show _ ↔ s.GrantTimed ctx c n ∧ _
  by_cases h : s.GrantTimed ctx c n
  · simp [State.grantWarned, ha, State.grantTime_of_timed ha h, h, Context.atLead]
  · simp [State.grantWarned, ha, State.grantTime_of_not_timed ha h, h]

/-! ### The notices of a Grant (R104) -/

theorem State.grantNotices_of_warned (l : Bool) (h : s.GrantMadeWarned ctx c n) :
    grantNotices c n l (s.grantTime c n) (s.grantWarned c n) = [.granted n c l, .warning n c (ctx.limit * 500 / 50)] := by
  rw [State.grantTime_of_timed ha h.1, (State.grantWarned_iff ha).2 h]
  rfl

theorem State.grantNotices_of_not_warned (l : Bool) (h : ¬s.GrantMadeWarned ctx c n) :
    grantNotices c n l (s.grantTime c n) (s.grantWarned c n) = [.granted n c l] := by
  rw [Bool.eq_false_iff.2 fun hw => h ((State.grantWarned_iff ha).1 hw)]
  cases s.grantTime c n <;> rfl

end

section
variable (s : State) (c : Chan) (n : Nat) (l : Bool)

theorem State.noticeView_appendSpeaker : (s.appendSpeaker c n).noticeView = s.noticeView := by
  unfold State.appendSpeaker
  split <;> rfl

theorem State.grant_hasRaised : s.HasRaised (s.grant c n l) (grantNotices c n l (s.grantTime c n) (s.grantWarned c n)) := by
  rw [State.grant_eq]
  exact State.hasRaised_of_view (s := s)
    ((State.noticeView_appendSpeaker _ c n).trans (State.noticeView_updSeat (s.setChan c _) n _)) _

theorem State.appendSpeaker_setPlace_changes (p : Place) (b : Option Chan) (r : Channel) :
    (((s.setChan c r).setPlace n p b).appendSpeaker c n) =
      { s with channels := s.channels.set c r, seats := (s.setPlace n p b).seats, speakers := (s.appendSpeaker c n).speakers } := by
  unfold State.appendSpeaker
  cases n <;> split <;> rfl

/-- Nothing changes but the channel records, the seats, the speaker list and what raised notices change. -/
theorem State.grant_changes : s.grant c n l =
    { s with channels := (s.grant c n l).channels, seats := (s.grant c n l).seats, speakers := (s.grant c n l).speakers,
             notices := (s.grant c n l).notices, overrun := (s.grant c n l).overrun, lostCount := (s.grant c n l).lostCount } := by
  have hraise : (s.grant c n l).sansNotices = _ := (congrArg State.sansNotices (s.grant_eq c n l)).trans (State.sansNotices_raiseAll _ _)
  rw [State.appendSpeaker_setPlace_changes] at hraise
  have hchannels := congrArg (fun t : State => t.channels) hraise
  have hseats := congrArg (fun t : State => t.seats) hraise
  have hspeakers := congrArg (fun t : State => t.speakers) hraise
  have heq := State.sansNotices_eq hraise
  simp only [State.sansNotices] at hchannels hseats hspeakers
  rw [hchannels, hseats, hspeakers]
  exact heq

end

/-- R104: the entry of the speaker list, which a Grant of channel P does not make. -/
theorem State.grant_speakers (s : State) (c : Chan) (n : Nat) (l : Bool) :
    (s.grant c n l).speakers = if c = .p then s.speakers else s.speakers ++ [{ chan := c, seat := n }] := by
  obtain ⟨-, hspeakers, -, -⟩ := s.grant_lists c n l
  by_cases hc : c = .p
  · subst hc; exact hspeakers
  · have hordinary : c.isOrdinary = true := bne_iff_ne.2 hc
    rw [hspeakers, if_pos hordinary, if_neg hc]

/-- Settles O35: a Grant writes the channel's record by R105, the seat's place, the speaker list and its notices, and changes nothing else
(`State.grant_changes`); the GRANT of an IDLE seat is that Grant on the channel there is room on. -/
theorem operatorGrantBindsChannel : Obligations.OperatorGrantBindsChannel := by
  refine have binds := ?grants; ⟨binds, fun s tag n rest ctx c h hopen hup he ha hn hl hidle hb hw hroom hc hfree hlow => ?operator⟩
  case grants =>
    intro s c n l ctx ha hn hl
    obtain ⟨h1, h2⟩ := mem_seatNumbers.1 hn
    have hchan := s.grant_chan_same c n l
    have hraised := s.grant_hasRaised c n l
    refine ⟨_, s.GrantTimed ctx c n, s.GrantMadeWarned ctx c n, rfl, rfl, rfl, by rw [hchan], by rw [hchan], by rw [hchan],
      fun h => ?_, fun h => ?_, ?_, fun d hd => s.grant_chan_ne n l hd, s.grant_seat_same c l h1 (hl ▸ h2),
      fun m hm => s.grant_seat_ne c l hm, s.grant_speakers c n l, fun h => ?_, fun h => ?_, s.grant_changes c n l⟩
    · rw [hchan, State.grantTime_of_timed ha h]
    · rw [hchan, State.grantTime_of_not_timed ha h]
    · rw [hchan]; exact State.grantWarned_iff ha
    · exact State.grantNotices_of_warned ha l h ▸ hraised
    · exact State.grantNotices_of_not_warned ha l h ▸ hraised
  case operator =>
    have hchosen : (s.withBuffer rest).room = some c := State.room_eq_some (s := s.withBuffer rest) ha hroom hc hfree hlow
    obtain ⟨t, timed, warned, hgrant, htimed, hwarned, hlive, hholder, hheld, hremaining, huntimed, hmark, hchans, hseat, hseats,
      hspeakers, hnotices, hnotice, hchanges⟩ := binds (s.withBuffer rest) c n false ctx ha hn hl
    have raisedInS := fun {ns} => State.hasRaised_congr (s := s) (u := s.withBuffer rest) (t := t) rfl (l := ns)
    rw [if_neg hc] at hspeakers
    refine ⟨t.reply tag (.granted c false), timed, warned, htimed.trans (propext (and_iff_right hc)), hwarned, ?_, hlive, hholder, hheld,
      hremaining, huntimed, hmark, hchans, hseat, hseats, hspeakers, fun h => raisedInS (hnotices h), fun h => raisedInS (hnotice h),
      congrArg (fun t : State => t.reply tag (.granted c false)) hchanges⟩
    rw [exec_grant_due h, State.operatorGrant_of_not_live (s := s.withBuffer rest) tag hopen hup he hb,
      State.grantByOperator_of_idle (s := s.withBuffer rest) tag hchosen hidle hw, hgrant]

end Sys2Proof.Machine
end

section
/-! ## The end of a priority intervention (R107, R108, R130 to R132) -/

namespace Sys2Proof.Machine

/-! ### Grants ended one after another, each with its fill (R109) -/

section
variable {s : State}

/-- Grants from the head come behind the grants that stand. -/
theorem State.grantHeads_appends (k : Nat) (s : State) : ∃ young, (State.grantHeads k s).speakers = s.speakers ++ young := by
  induction k generalizing s with
  | zero => exact ⟨[], (List.append_nil _).symm⟩
  | succ k ih =>
    obtain hw | hr | ⟨e, rest, c, hw, hr⟩ := s.grantHeads_step
    · exact ⟨[], by rw [State.grantHeads_of_empty _ hw, List.append_nil]⟩
    · exact ⟨[], by rw [State.grantHeads_of_no_room _ hr, List.append_nil]⟩
    · obtain ⟨-, hspeakers, -, -⟩ := State.grant_lists { s with waiting := rest } c e.seat true
      obtain ⟨young, hyoung⟩ := ih ({ s with waiting := rest }.grant c e.seat true)
      rw [State.grantHeads_succ hw hr, hyoung, hspeakers, if_pos (State.room_free hr).1, List.append_assoc]
      exact ⟨_, rfl⟩

/-- R88: a fill grants the first `j` of the list, which become the youngest speakers; none in DIRECT and MODERATED. -/
theorem State.fill_takes {ctx : Context} (ha : s.active = some ctx) : ∃ j young, s.fill.waiting = s.waiting.drop j ∧
    s.fill.speakers = s.speakers ++ young ∧ young.map Speaker.seat = (s.waiting.take j).map WaitEntry.seat ∧
    (ctx.mode = .direct ∨ ctx.mode = .moderated → j = 0) := by
  cases hf : s.fills with
  | false => exact ⟨0, [], by simp [s.fill_of_not_fills hf]⟩
  | true =>
    obtain ⟨j, -, hwaiting, hseats⟩ := State.grantHeads_takes s.waiting.length s
    obtain ⟨young, hyoung⟩ := State.grantHeads_appends s.waiting.length s
    rw [State.fill_of_fills hf]
    refine ⟨j, young, hwaiting, hyoung, ?_, fun hmode => ?_⟩
    · rw [hyoung, List.map_append] at hseats
      exact List.append_cancel_left hseats
    · obtain ⟨-, hm⟩ := (State.fills_iff ha).1 hf
      obtain hd | hd := hmode <;> simp [hd] at hm

/-- The End of every grant of a list, oldest first, each with its fill. -/
def State.endList (r : Reason) (l : List Speaker) (s : State) : State := l.foldl (fun s e => s.endOrdinary e.chan e.seat r) s

theorem State.endSpeakers_eq_endList (s : State) (r : Reason) : s.endSpeakers r = s.endList r s.speakers := rfl

theorem State.endList_cons (r : Reason) (e : Speaker) (l : List Speaker) (s : State) :
    s.endList r (e :: l) = (s.endOrdinary e.chan e.seat r).endList r l := rfl

theorem State.endOrdinary_active {ctx : Context} (ha : s.active = some ctx) (c : Chan) (n : Nat) (r : Reason) :
    (s.endOrdinary c n r).active = some ctx := (State.active_of_frozen (s.frozen_endOrdinary c n r)).trans ha

/-- R107: the fill leaves the channel of the End it completes as the End leaves it. -/
theorem State.endOrdinary_chan_same (s : State) (c : Chan) (n : Nat) (r : Reason) :
    (s.endOrdinary c n r).chan c = (s.chan c).released := by
  have hreleased : (s.release c n r).chan c = (s.chan c).released := s.release_chan_same c n r
  rw [State.endOrdinary, (State.fill_keeps _).1 c (.inr (by rw [hreleased]; simp [Channel.released])), hreleased]

/-- The channels of the list are released, and those neither in it nor FREE stand. -/
theorem State.endList_chan (r : Reason) (l : List Speaker) {c : Chan} (hc : c = .p ∨ (s.chan c).state ≠ .free) :
    (s.endList r l).chan c = if c ∈ l.map Speaker.chan then (s.chan c).released else s.chan c := by
  induction l generalizing s with
  | nil => rfl
  | cons e l ih =>
    rw [State.endList_cons]
    by_cases he : c = e.chan
    · subst he
      rw [ih (.inr (by rw [State.endOrdinary_chan_same]; simp [Channel.released])), State.endOrdinary_chan_same]
      simp [Channel.released]
    · have hkept := s.endOrdinary_chan_ne e.seat r he hc
      rw [ih (by rwa [hkept]), hkept]
      simp [he]

/-- R48, R107: the seat of an End is off the floor under the lockout in force, whatever its fill grants. -/
theorem State.Seated.endOrdinary_seat_same (h : s.Seated) {c : Chan} {n : Nat} (hc : (s.chan c).seat = some n) {r : Reason}
    (hr : r ≠ .withdrawn) : (s.endOrdinary c n r).seat n = (s.seat n).ended s.settings.lockout := by
  obtain ⟨h1, h2⟩ := mem_seatNumbers.1 (h.range_of_seat hc)
  have hended : (s.release c n r).seat n = (s.seat n).ended s.settings.lockout := by
    rw [State.release_seat_same s c r h1 (h.seats ▸ h2), if_neg hr]; rfl
  rw [State.endOrdinary, (State.fill_keeps _).2 n ((h.release hc r).not_listed (by rw [hended]; simp [Seat.ended])), hended]

/-- Any other seat that does not wait stands. -/
theorem State.Seated.endOrdinary_seat_ne (h : s.Seated) {n m : Nat} (hm : m ≠ n) (hw : (s.seat m).place ≠ .waiting) (c : Chan)
    (r : Reason) : (s.endOrdinary c n r).seat m = s.seat m := by
  have hlist : (s.release c n r).waiting = s.waiting := (s.release_lists c n r).1
  rw [State.endOrdinary, (State.fill_keeps _).2 m (hlist ▸ h.not_listed hw), State.release_seat_ne s c r hm]

/-- The End of the oldest grant, with its fill: the other grants stand, and those of the fill come behind them. -/
theorem State.Seated.endOrdinary_oldest (h : s.Seated) {ctx : Context} (ha : s.active = some ctx) {e : Speaker} {l : List Speaker}
    (hs : s.speakers = e :: l) (r : Reason) : ∃ j young, (s.endOrdinary e.chan e.seat r).waiting = s.waiting.drop j ∧
      (s.endOrdinary e.chan e.seat r).speakers = l ++ young ∧ young.map Speaker.seat = (s.waiting.take j).map WaitEntry.seat ∧
      (ctx.mode = .direct ∨ ctx.mode = .moderated → j = 0) := by
  obtain ⟨-, hordinary⟩ := h.speaker (e := e) (by simp [hs])
  have hactive : (s.release e.chan e.seat r).active = some ctx := (State.active_of_frozen (by simp)).trans ha
  obtain ⟨hwaiting, hspeakers, -⟩ := s.release_lists e.chan e.seat r
  have hothers : (s.release e.chan e.seat r).speakers = l := by
    have hnodup := h.speakersOnce
    rw [hs, List.map_cons, List.nodup_cons] at hnodup
    rw [hspeakers, if_pos (mem_ordinaryChans.1 (mem_ordinaryChans_iff_ne.2 hordinary)), hs, List.filter_cons_of_neg (by simp)]
    exact List.filter_eq_self.2 fun x hx => bne_iff_ne.2 fun hxe => hnodup.1 (hxe ▸ List.mem_map_of_mem hx)
  have hfill := State.fill_takes hactive
  rwa [hwaiting, hothers] at hfill

/-- The oldest grants ended, each with its fill: the heads of the list become the youngest speakers. -/
theorem State.Seated.endList_lists (h : s.Seated) {ctx : Context} (ha : s.active = some ctx) (r : Reason) {l young : List Speaker}
    (hs : s.speakers = l ++ young) : ∃ j, (s.endList r l).waiting = s.waiting.drop j ∧
      (s.endList r l).speakers.map Speaker.seat = young.map Speaker.seat ++ (s.waiting.take j).map WaitEntry.seat ∧
      (ctx.mode = .direct ∨ ctx.mode = .moderated → j = 0) := by
  induction l generalizing s young with
  | nil => exact ⟨0, rfl, (congrArg (List.map Speaker.seat) hs).trans (List.append_nil _).symm, fun _ => rfl⟩
  | cons e l ih =>
    rw [List.cons_append] at hs
    obtain ⟨hholds, -⟩ := h.speaker (e := e) (by simp [hs])
    obtain ⟨i, granted, hwaiting, hspeakers, hgranted, hi⟩ := h.endOrdinary_oldest ha hs r
    have hactive := State.endOrdinary_active ha e.chan e.seat r
    obtain ⟨j, hwait, hspeak, hj⟩ :=
      ih (h.empties_endOrdinary hholds r).seated hactive (young := young ++ granted) (by rw [hspeakers, List.append_assoc])
    rw [hwaiting] at hwait hspeak
    refine ⟨i + j, by rw [State.endList_cons, hwait, List.drop_drop], ?_, fun hm => by rw [hi hm, hj hm]⟩
    rw [State.endList_cons, hspeak, List.map_append, hgranted, List.take_add, List.map_append, List.append_assoc]

/-- R48, R107: of the seats that do not wait, those of the list are off the floor under the lockout in force, and the others stand. -/
theorem State.Seated.endList_seat (h : s.Seated) {r : Reason} (hr : r ≠ .withdrawn) {ctx : Context} (ha : s.active = some ctx)
    {l young : List Speaker} (hs : s.speakers = l ++ young) {n : Nat} (hn : (s.seat n).place ≠ .waiting) :
    (s.endList r l).seat n = if n ∈ l.map Speaker.seat then (s.seat n).ended s.settings.lockout else s.seat n := by
  induction l generalizing s young with
  | nil => rfl
  | cons e l ih =>
    rw [List.cons_append] at hs
    obtain ⟨hholds, -⟩ := h.speaker (e := e) (by simp [hs])
    obtain ⟨i, granted, -, hspeakers, -, -⟩ := h.endOrdinary_oldest ha hs r
    have hactive := State.endOrdinary_active ha e.chan e.seat r
    have hsettings : (s.endOrdinary e.chan e.seat r).settings = s.settings :=
      (congrArg (fun u : State => u.settings) (s.frozen_endOrdinary e.chan e.seat r) : _)
    have hempties := h.empties_endOrdinary hholds r
    rw [State.endList_cons, ih hempties.seated hactive (young := young ++ granted) (by rw [hspeakers, List.append_assoc])
      (hempties.unlisted n hn), hsettings]
    by_cases he : n = e.seat
    · subst he
      rw [h.endOrdinary_seat_same hholds hr]
      simp [Seat.ended]
    · rw [h.endOrdinary_seat_ne he hn]
      simp [he]

end

/-! ### The floor opened again (R107, R131) -/

/-- R107, R131: the End of channel P, held by seat `n`, with the floor OPEN again and RESUMED raised. -/
def State.reopened (s : State) (n : Nat) (r : Reason) (e : PriorityEnd) : State :=
  ((s.release .p n r).withFloor .opened).raise (.resumed n e)

section
variable {s : State} {n : Nat} {c : Context}

theorem State.interventionEnded_of_clear (r : Reason) (h : c.priorityEnd = .clear) :
    s.interventionEnded n r c = ((s.reopened n r .clear).endSpeakers .priorityClear).fill := by
  rw [State.interventionEnded, h]
  rfl

/-- R109, R131: the End of channel P and what completes it, under an active context. -/
theorem State.endPriority_eq_interventionEnded (ha : s.active = some c) (r : Reason) :
    s.endPriority n r = s.interventionEnded n r c := by
  have hactive : (s.release .p n r).active = some c := (State.active_of_frozen (s.frozen_release .p n r)).trans ha
  rw [State.endPriority, State.endIntervention, hactive, State.interventionEnded]
  dsimp only
  cases c.priorityEnd <;> rfl

section
variable (s) (n) (r : Reason) (e : PriorityEnd)

theorem State.reopened_eq : s.reopened n r e = ((s.release .p n r).withFloor .opened).raise (.resumed n e) := rfl

theorem State.frozen_reopened : (s.reopened n r e).frozen = s.frozen := by
  rw [State.reopened_eq, State.frozen_raise]
  exact s.frozen_release .p n r

theorem State.reopened_chan_p : (s.reopened n r e).chan .p = (s.chan .p).released := by
  rw [State.reopened_eq, State.chan_raise]
  exact s.release_chan_same .p n r

theorem State.reopened_chan_ne {d : Chan} (hd : d ≠ .p) : (s.reopened n r e).chan d = s.chan d := by
  rw [State.reopened_eq, State.chan_raise]
  exact s.release_chan_ne n r hd

theorem State.reopened_seat_withdrawn (h1 : 1 ≤ n) (h2 : n ≤ s.seats.length) :
    (s.reopened n .withdrawn e).seat n = { s.seat n with place := .idle, bound := none } := by
  rw [State.reopened_eq, State.seat_raise]
  exact s.release_seat_same .p .withdrawn h1 h2

theorem State.reopened_seat_ne {m : Nat} (hm : m ≠ n) : (s.reopened n r e).seat m = s.seat m := by
  rw [State.reopened_eq, State.seat_raise]
  exact s.release_seat_ne .p r hm

theorem State.reopened_lists : (s.reopened n r e).waiting = s.waiting ∧ (s.reopened n r e).speakers = s.speakers := by
  obtain ⟨hwaiting, hspeakers, -⟩ := s.release_lists .p n r
  rw [State.reopened_eq, State.raise_waiting, State.raise_speakers]
  exact ⟨hwaiting, hspeakers⟩

theorem State.noticeView_reopened : (s.reopened n r e).noticeView =
    (s.raiseAll [s.endedNotice r { chan := .p, seat := n }, .resumed n e]).noticeView :=
  State.noticeView_raise (s := s.raise (s.endedNotice r { chan := .p, seat := n })) (t := (s.release .p n r).withFloor .opened)
    (s.release_notices .p n r) _

end

theorem State.FloorAgrees.reopened (h : s.FloorAgrees) (hn : (s.chan .p).seat = some n) (r : Reason) (e : PriorityEnd) :
    (s.reopened n r e).FloorAgrees := (h.releasePriority hn r).raise _

/-- R72: the floor of an active context is OPEN when channel P is not LIVE. -/
theorem State.FloorAgrees.opened (h : s.FloorAgrees) (ha : s.active = some c) (hp : (s.chan .p).state ≠ .live) :
    s.floor = .opened := by
  have hnotClosed : s.floor ≠ .closed := fun hf => by simp [State.active, h.closed.1 hf] at ha
  have hnotHeld : s.floor ≠ .held := fun hf => hp (h.held.1 hf)
  cases hf : s.floor with
  | opened => rfl
  | closed => exact absurd hf hnotClosed
  | held => exact absurd hf hnotHeld

/-- R108: the duration of an ordinary grant is not touched by the End of channel P. -/
theorem State.reopened_endedNotice (r q : Reason) (e : PriorityEnd) {x : Speaker} (hx : x.chan ≠ .p) :
    (s.reopened n r e).endedNotice q x = s.endedNotice q x := by
  rw [State.endedNotice, State.reopened_chan_ne _ _ _ _ hx]; rfl

end

/-! ### The end under CLEAR (R132) -/

section
variable {s : State} {n : Nat} {c : Context} (h : s.FloorAgrees) (hn : (s.chan .p).seat = some n) (ha : s.active = some c)
  (hc : c.priorityEnd = .clear) (r : Reason)

/-- The grants that stood are ended, and the fill of the whole is still to come. -/
def State.priorityCleared (s : State) (n : Nat) (r : Reason) : State := (s.reopened n r .clear).endList .priorityClear s.speakers

theorem State.priorityCleared_eq (s : State) (n : Nat) (r : Reason) :
    s.priorityCleared n r = (s.reopened n r .clear).endList .priorityClear s.speakers := rfl

section
include hc

theorem State.interventionEnded_eq_fill : s.interventionEnded n r c = (s.priorityCleared n r).fill := by
  rw [State.interventionEnded_of_clear r hc, State.endSpeakers_eq_endList, (s.reopened_lists n r .clear).2, State.priorityCleared_eq]

end

theorem State.reopened_active (e : PriorityEnd) (ha : s.active = some c) : (s.reopened n r e).active = some c :=
  (State.active_of_frozen (s.frozen_reopened n r e)).trans ha

theorem State.frozen_priorityCleared : (s.priorityCleared n r).frozen = s.frozen :=
  (State.frozen_foldl _ (by simp) _ _).trans (s.frozen_reopened n r .clear)

theorem State.priorityCleared_active (ha : s.active = some c) : (s.priorityCleared n r).active = some c :=
  (State.active_of_frozen (State.frozen_priorityCleared r)).trans ha

/-- Channel P is released first, and nothing reaches it afterwards. -/
theorem State.priorityCleared_chan_p : (s.priorityCleared n r).chan .p = (s.chan .p).released := by
  rw [State.priorityCleared_eq, State.endList_chan _ _ (.inl rfl), State.reopened_chan_p]
  split <;> rfl

section
include h

theorem State.FloorAgrees.priorityCleared_chan {e : Speaker} (he : e ∈ s.speakers) :
    (s.priorityCleared n r).chan e.chan = (s.chan e.chan).released := by
  obtain ⟨-, hlive, -⟩ := (h.seated.speaks e).1 he
  obtain ⟨-, hordinary⟩ := h.seated.speaker he
  have hstands : (s.reopened n r .clear).chan e.chan = s.chan e.chan := s.reopened_chan_ne n r .clear hordinary
  rw [State.priorityCleared_eq, State.endList_chan _ _ (.inr (by simp [hstands, hlive])), hstands, if_pos (List.mem_map_of_mem he)]

include hn

theorem State.FloorAgrees.priorityCleared : (s.priorityCleared n r).FloorAgrees := by
  have hends := (h.reopened hn r .clear).endSpeakers .priorityClear
  rwa [State.endSpeakers_eq_endList, (s.reopened_lists n r .clear).2] at hends

/-- The holder of channel P has no ordinary grant. -/
theorem State.FloorAgrees.holder_not_speaker {e : Speaker} (he : e ∈ s.speakers) : e.seat ≠ n := by
  rintro rfl
  obtain ⟨hholds, hordinary⟩ := h.seated.speaker he
  exact hordinary (h.seated.chan_unique hholds hn)

include ha

/-- R48, R107: the seats of the grants that stood. -/
theorem State.FloorAgrees.priorityCleared_seat {e : Speaker} (he : e ∈ s.speakers) :
    (s.priorityCleared n r).seat e.seat = (s.seat e.seat).ended s.settings.lockout := by
  obtain ⟨hholds, -⟩ := h.seated.speaker he
  have hlive : (s.seat e.seat).place = .live := (h.seated.live _).2 (by simp [h.seated.bound_of_seat hholds])
  have hstands : (s.reopened n r .clear).seat e.seat = s.seat e.seat :=
    s.reopened_seat_ne n r .clear (h.holder_not_speaker hn he)
  have hsettings : (s.reopened n r .clear).settings = s.settings :=
    (congrArg (fun u : State => u.settings) (s.frozen_reopened n r .clear) : _)
  rw [State.priorityCleared_eq, (h.reopened hn r .clear).seated.endList_seat (by simp) (State.reopened_active r .clear ha) (young := [])
    (by rw [List.append_nil]; exact (s.reopened_lists n r .clear).2) (by simp [hstands, hlive]), hstands, hsettings,
    if_pos (List.mem_map_of_mem he)]

/-- R107: the chair that released the key is off the floor, its lockout as it was. -/
theorem State.FloorAgrees.priorityCleared_holder :
    (s.priorityCleared n .withdrawn).seat n = { s.seat n with place := .idle, bound := none } := by
  obtain ⟨h1, h2⟩ := mem_seatNumbers.1 (h.seated.range_of_seat hn)
  have hidle := s.reopened_seat_withdrawn n .clear h1 (h.seats ▸ h2)
  have hnone : n ∉ s.speakers.map Speaker.seat := fun hm => by
    obtain ⟨e, he, hen⟩ := List.mem_map.1 hm
    exact h.holder_not_speaker hn he hen
  rw [State.priorityCleared_eq, (h.reopened hn .withdrawn .clear).seated.endList_seat (by simp)
    (State.reopened_active .withdrawn .clear ha) (young := []) (by rw [List.append_nil]; exact (s.reopened_lists n _ .clear).2)
    (by simp [hidle]), if_neg hnone, hidle]

/-- R132: the fills have granted the heads of the list, and no grant that stood is left. -/
theorem State.FloorAgrees.priorityCleared_lists : ∃ j, (s.priorityCleared n r).waiting = s.waiting.drop j ∧
    (s.priorityCleared n r).speakers.map Speaker.seat = (s.waiting.take j).map WaitEntry.seat ∧
    (c.mode = .direct ∨ c.mode = .moderated → j = 0) := by
  obtain ⟨hwaiting, hspeakers⟩ := s.reopened_lists n r .clear
  have hlists := (h.reopened hn r .clear).seated.endList_lists (State.reopened_active r .clear ha) .priorityClear
    (young := []) (hspeakers.trans (List.append_nil _).symm)
  rwa [hwaiting] at hlists

end

/-! ### The last fill (R131) -/

theorem State.fill_chan_released {d : Chan} {x : Channel} (h : s.chan d = x.released) : s.fill.chan d = x.released := by
  rw [(State.fill_keeps s).1 d (.inr (by rw [h]; simp [Channel.released])), h]

theorem State.Seated.fill_seat_idle (h : s.Seated) {m : Nat} (hm : (s.seat m).place = .idle) : s.fill.seat m = s.seat m :=
  (State.fill_keeps s).2 m (h.not_listed (by simp [hm]))

section
include h hn ha

/-- R131: the floor is OPEN for the last fill. -/
theorem State.FloorAgrees.priorityCleared_opened : (s.priorityCleared n r).floor = .opened :=
  (h.priorityCleared hn r).opened (State.priorityCleared_active r ha)
    (by rw [State.priorityCleared_chan_p]; simp [Channel.released])

theorem State.FloorAgrees.priorityCleared_fill_opened : (s.priorityCleared n r).fill.floor = .opened :=
  (h.priorityCleared hn r).fill.opened ((State.active_of_frozen (State.frozen_fill _)).trans (State.priorityCleared_active r ha))
    (by rw [State.fill_chan_released (State.priorityCleared_chan_p r)]; simp [Channel.released])

/-- R132: with the last fill too, the speakers are the heads of the list. -/
theorem State.FloorAgrees.priorityCleared_fill_lists : ∃ j, (s.priorityCleared n r).fill.waiting = s.waiting.drop j ∧
    (s.priorityCleared n r).fill.speakers.map Speaker.seat = (s.waiting.take j).map WaitEntry.seat ∧
    (c.mode = .direct ∨ c.mode = .moderated → j = 0) := by
  obtain ⟨i, hwaiting, hspeakers, hi⟩ := h.priorityCleared_lists hn ha r
  obtain ⟨j, young, hwait, hspeak, hyoung, hj⟩ := State.fill_takes (State.priorityCleared_active (n := n) r ha)
  refine ⟨i + j, by rw [hwait, hwaiting, List.drop_drop], ?_, fun hm => by rw [hi hm, hj hm]⟩
  rw [hspeak, List.map_append, hspeakers, hyoung, hwaiting, List.take_add, List.map_append]

/-- R88: in QUEUED and OVERRIDE nobody waits afterwards, or there is no room. -/
theorem State.FloorAgrees.priorityCleared_fill_exhausts (hmode : c.mode = .queued ∨ c.mode = .override) :
    (s.priorityCleared n r).fill.waiting = [] ∨ c.maxLive ≤ (s.priorityCleared n r).fill.speakers.length ∨
      ∀ d, d ≠ .p → ((s.priorityCleared n r).fill.chan d).state ≠ .free :=
  State.fill_exhausts (State.priorityCleared_active r ha)
    ((State.fills_iff (State.priorityCleared_active r ha)).2 ⟨h.priorityCleared_opened hn ha r, hmode⟩)

end

/-! ### The notices (R107, R108, R131) -/

/-- R107, R108, R131, R132: with nobody waiting the notices are ENDED, RESUMED and the ENDED of each grant that stood. -/
theorem State.FloorAgrees.noticeView_priorityCleared (h : s.FloorAgrees) (hw : s.waiting = []) :
    (s.priorityCleared n r).fill.noticeView =
      (s.raiseAll ([s.endedNotice r { chan := .p, seat := n }, .resumed n .clear] ++
        s.speakers.map (s.endedNotice .priorityClear))).noticeView := by
  obtain ⟨hwaiting, hspeakers⟩ := s.reopened_lists n r .clear
  have hnotices : s.speakers.map ((s.reopened n r .clear).endedNotice .priorityClear) = s.speakers.map (s.endedNotice .priorityClear) :=
    List.map_congr_left fun e he => State.reopened_endedNotice r .priorityClear .clear (h.seated.speaker he).2
  have hends := State.endSpeakers_of_empty (hwaiting.trans hw) .priorityClear
  rw [State.endSpeakers_eq_endList, hspeakers] at hends
  have hnobody : (s.priorityCleared n r).waiting = [] := by
    rw [State.priorityCleared_eq, hends, (State.releaseList_lists _ _ _).1, hwaiting, hw]
  rw [State.fill_of_empty _ hnobody, State.priorityCleared_eq, hends, State.releaseList_notices, hnotices, State.raiseAll_append]
  exact State.noticeView_congr (s.noticeView_reopened n r .clear) _

end

/-! ### The command (R130) -/

section
variable {s : State} {n : Nat}

theorem exec_priorityReleased_due {k : Nat} {ev : KeyEvent} {rest : List KeySlot}
    (h : s.Presenting k n ev .priorityReleased rest) :
    exec (.priorityReleased n) s = .next ((s.keepSlots k rest).judgePriorityReleased n).closePresentation := exec_command_due h

theorem State.isHolder_iff : s.isHolder n = true ↔ (s.chan .p).state = .live ∧ (s.chan .p).seat = some n := by
  simp [State.isHolder]

theorem State.judgePriorityReleased_of_other (h : ¬((s.chan .p).state = .live ∧ (s.chan .p).seat = some n)) :
    s.judgePriorityReleased n = s := by
  rw [State.judgePriorityReleased, if_neg fun hh => h (State.isHolder_iff.1 hh)]

theorem State.judgePriorityReleased_of_holder {c : Context} (hl : (s.chan .p).state = .live) (hn : (s.chan .p).seat = some n)
    (ha : s.active = some c) : s.judgePriorityReleased n = s.interventionEnded n .withdrawn c := by
  rw [State.judgePriorityReleased, if_pos (State.isHolder_iff.2 ⟨hl, hn⟩), State.endPriority_eq_interventionEnded ha]

theorem State.holderEnded_of_live (hl : (s.chan .p).state = .live) (hn : (s.chan .p).seat = some n) (r : Reason) :
    s.holderEnded r = [s.endedNotice r { chan := .p, seat := n }] := by
  simp only [State.holderEnded, hl, hn]

theorem State.closePresentation_floor (s : State) : s.closePresentation.floor = s.floor ∧ s.closePresentation.waiting = s.waiting ∧
    s.closePresentation.speakers = s.speakers ∧ s.closePresentation.noticeView = s.noticeView ∧
    (∀ c, s.closePresentation.chan c = s.chan c) ∧ ∀ m, s.closePresentation.seat m = s.seat m := by
  obtain ⟨-, -, hseats, -⟩ := s.closePresentation_keeps
  refine ⟨?_, ?_, ?_, ?_, fun c => ?_, fun m => State.seat_congr hseats m⟩ <;> unfold State.closePresentation <;> split <;> rfl

theorem State.hasRaised_of_noticeView {t : State} {l : List Notice} (h : t.noticeView = (s.raiseAll l).noticeView) :
    s.HasRaised t l := by
  simp only [State.noticeView, Prod.mk.injEq] at h
  exact h.2

end

/-- Settles O29: only the holder's release is answered (`State.isHolder_iff`). Under CLEAR the grants that stood are ended in
`State.priorityCleared`, whose fills take the heads of the list; the last fill leaves no room or nobody waiting. -/
theorem priorityReleasedEndsIntervention : Obligations.PriorityReleasedEndsIntervention := by
  intro s k n ev rest h
  rw [exec_priorityReleased_due h]
  refine ⟨fun hother => ?_, fun c hl hn ha => ?_⟩
  · rw [State.judgePriorityReleased_of_other (s := s.keepSlots k rest) hother]
  rw [State.judgePriorityReleased_of_holder (s := s.keepSlots k rest) hl hn ha]
  refine ⟨rfl, fun hclear hfloor => ⟨_, rfl, ?_⟩⟩
  have hkept : (s.keepSlots k rest).FloorAgrees := hfloor.keepSlots k rest
  have hseated := (hkept.priorityCleared hn .withdrawn).seated
  rw [State.interventionEnded_eq_fill hclear .withdrawn]
  obtain ⟨cfloor, cwaiting, cspeakers, cnotices, cchan, cseat⟩ :=
    ((s.keepSlots k rest).priorityCleared n .withdrawn).fill.closePresentation_floor
  rw [cfloor, cwaiting, cspeakers, cchan, cseat]
  refine ⟨hkept.priorityCleared_fill_opened hn ha .withdrawn, State.fill_chan_released (State.priorityCleared_chan_p .withdrawn), ?_,
    fun e he => ⟨?_, ?_⟩, hkept.priorityCleared_fill_lists hn ha .withdrawn, fun hmode => ?_, fun hw => ?_⟩
  · have hholder := hkept.priorityCleared_holder hn ha
    exact (hseated.fill_seat_idle (by rw [hholder])).trans hholder
  · rw [cchan]
    exact State.fill_chan_released (hkept.priorityCleared_chan .withdrawn he)
  · have hended := hkept.priorityCleared_seat hn ha .withdrawn he
    rw [cseat]
    exact (hseated.fill_seat_idle (by rw [hended]; rfl)).trans hended
  · simp only [cchan]
    exact hkept.priorityCleared_fill_exhausts hn ha .withdrawn hmode
  · rw [State.holderEnded_of_live hl hn]
    have hview := cnotices.trans (hkept.noticeView_priorityCleared (n := n) .withdrawn hw)
    exact State.hasRaised_congr (s := s) (u := s.keepSlots k rest) rfl (State.hasRaised_of_noticeView hview)

end Sys2Proof.Machine
end

section
/-! ## The start of a priority intervention (R124, R125) -/

namespace Sys2Proof.Machine

section
variable {s : State} {n : Nat}

theorem exec_priorityHeld_due {k : Nat} {ev : KeyEvent} {rest : List KeySlot} (h : s.Presenting k n ev .priorityHeld rest) :
    exec (.priorityHeld n) s = .next ((s.keepSlots k rest).judgePriorityHeld n).closePresentation := exec_command_due h

/-! ### The rows of R124 -/

theorem State.judgePriorityHeld_of_barred (h : ¬(s.floor = .opened ∧ (s.chan .p).state = .free ∧ s.entitledChair n = true)) :
    s.judgePriorityHeld n = s := by
  rw [State.judgePriorityHeld, if_neg h]

theorem State.judgePriorityHeld_of_may (hf : s.floor = .opened) (hp : (s.chan .p).state = .free) (he : s.entitledChair n = true) :
    s.judgePriorityHeld n = { (s.escalate n).grant .p n false with floor := .held }.raise (.heldBy n) := by
  rw [State.judgePriorityHeld, if_pos ⟨hf, hp, he⟩, State.startPriority]

/-! ### Escalation, by the chair's place (R125) -/

theorem State.escalate_of_idle (hi : (s.seat n).place = .idle) : s.escalate n = s := by
  rw [State.escalate, hi]

theorem State.escalate_of_waiting (hw : (s.seat n).place = .waiting) : s.escalate n = s.removeWaiting n .escalated := by
  rw [State.escalate, hw]

theorem State.escalate_of_live {c : Chan} (hc : c ≠ .p) (hl : (s.seat n).place = .live) (hb : (s.seat n).bound = some c) :
    s.escalate n = (s.release c n .escalated).fill := by
  rw [State.escalate, hl]
  exact State.endSeat_of_ordinary .escalated hb hc

end

/-- Settles O28: the level has no effect on a floor that bars it (`State.judgePriorityHeld_of_barred`); where the intervention
may start (`State.judgePriorityHeld_of_may`), the chair's place says what is escalated before channel P is granted. -/
theorem priorityHeldStartsIntervention : Obligations.PriorityHeldStartsIntervention := by
  intro s k n ev rest h
  rw [exec_priorityHeld_due h]
  refine ⟨fun hbarred => ?_, fun hf hp he => ?_⟩
  · rw [State.judgePriorityHeld_of_barred (s := s.keepSlots k rest) hbarred]
  rw [State.judgePriorityHeld_of_may (s := s.keepSlots k rest) hf hp he]
  refine ⟨fun hidle => ?_, fun hwaiting => ?_, fun c hc hlive hbound => ?_⟩
  · rw [State.escalate_of_idle (s := s.keepSlots k rest) hidle]
  · rw [State.escalate_of_waiting (s := s.keepSlots k rest) hwaiting]
  · rw [State.escalate_of_live (s := s.keepSlots k rest) hc hlive hbound]

end Sys2Proof.Machine
end

/-! # Gain ramps and the floor mix: gated samples, the frame step, and the silence of FREE channels -/

section
/-! ## Gated samples and the floor mix (R145 to R147) -/

namespace Sys2Proof.Machine

/-- R145: the division rounds the product to the nearest, an exact half toward +∞. -/
theorem gate_rounds (x : Sample) (g : Nat) :
    32768 * gate x g ≤ x.toInt * g + 16384 ∧ x.toInt * g + 16384 < 32768 * gate x g + 32768 := by
  unfold gate; omega

theorem gate_nonneg {x : Sample} (hx : 0 ≤ x.toInt) (g : Nat) : 0 ≤ gate x g := by
  have hprod : 0 ≤ x.toInt * g := Int.mul_nonneg hx (Int.natCast_nonneg g)
  obtain ⟨-, hhigh⟩ := gate_rounds x g
  omega

theorem gate_nonpos {x : Sample} (hx : x.toInt ≤ 0) (g : Nat) : gate x g ≤ 0 := by
  have hprod : x.toInt * g ≤ 0 := Int.mul_nonpos_of_nonpos_of_nonneg hx (Int.natCast_nonneg g)
  obtain ⟨hlow, -⟩ := gate_rounds x g
  omega

/-- R146: a gain of at most unity makes no sample greater in magnitude. -/
theorem gate_natAbs_le (x : Sample) {g : Nat} (hg : g ≤ 32768) : (gate x g).natAbs ≤ x.toInt.natAbs := by
  have hprod : (x.toInt * g).natAbs ≤ x.toInt.natAbs * 32768 := by
    rw [Int.natAbs_mul, Int.natAbs_natCast]
    exact Nat.mul_le_mul_left _ hg
  obtain ⟨hlow, hhigh⟩ := gate_rounds x g
  obtain hx | hx := le_total 0 x.toInt
  · have hsign := gate_nonneg hx g
    omega
  · have hsign := gate_nonpos hx g
    omega

theorem gate_unity (x : Sample) : gate x 32768 = x.toInt := by unfold gate; omega

/-- A 24-bit word as a number with sign. -/
theorem Sample.toInt_range (x : Sample) : -8388608 ≤ x.toInt ∧ x.toInt ≤ 8388607 := by
  have hlow := x.le_toInt
  have hhigh := x.toInt_lt
  omega

/-- R146: no clamp is needed: only a sample of −8,388,608 has the magnitude 8,388,608, and it stays negative. -/
theorem gate_range (x : Sample) {g : Nat} (hg : g ≤ 32768) : -8388608 ≤ gate x g ∧ gate x g ≤ 8388607 := by
  obtain ⟨hlow, hhigh⟩ := Sample.toInt_range x
  have habs := gate_natAbs_le x hg
  obtain hx | hx := le_or_gt 0 x.toInt
  · omega
  · have hsign := gate_nonpos hx.le g
    omega

theorem State.gated_range (s : State) (x : PerChan Sample) {c : Chan} (hc : (s.gain c).current ≤ 32768) :
    -8388608 ≤ s.gated x c ∧ s.gated x c ≤ 8388607 := by
  unfold State.gated
  split
  · decide
  · exact gate_range _ hc

/-- 00_scope 0.8: saturation ends in the sample range. -/
theorem saturate_range (n : Int) : -8388608 ≤ saturate n ∧ saturate n ≤ 8388607 := by unfold saturate; omega

/-- Settles O10: the rounding (`gate_rounds`), the magnitude it keeps (`gate_natAbs_le`), and the saturation of the mix. -/
theorem gatedSampleIsRoundedInRange : Obligations.GatedSampleIsRoundedInRange := by
  refine ⟨fun x g hg => ?_, fun s x c hc => s.gated_range x hc, fun y => saturate_range _⟩
  obtain ⟨hlow, hhigh⟩ := gate_rounds x g
  obtain ⟨hmin, hmax⟩ := gate_range x hg
  exact ⟨by omega, by omega, hmin, hmax, gate_natAbs_le x hg, gate_unity x⟩

end Sys2Proof.Machine
end

section
/-! ## The frame step (R138 to R144) -/

namespace Sys2Proof.Machine

/-! ### Targets and ramps (R139, R142) -/

/-- R142: toward target 0 a gain falls by the step and stops at 0. -/
theorem rampStep_zero (size gain : Nat) : rampStep size 0 gain = gain - size := by
  unfold rampStep
  split
  · omega
  · split <;> omega

theorem rampStep_of_lt {target gain : Nat} (h : gain < target) (size : Nat) : rampStep size target gain = min (gain + size) target :=
  if_pos h

theorem rampStep_of_gt {target gain : Nat} (h : target < gain) (size : Nat) : rampStep size target gain = max (gain - size) target := by
  rw [rampStep, if_neg (Nat.lt_asymm h), if_pos h]

theorem rampStep_self (size target : Nat) : rampStep size target target = target := by simp [rampStep]

section
variable {s t : State} {c : Chan}

theorem State.rampGain_of_free (h : (s.chan c).state = .free) : s.rampGain c = { current := 0, target := 0 } := by
  simp [State.rampGain, State.target, h]

theorem State.rampGain_of_releasing (h : (s.chan c).state = .releasing) :
    s.rampGain c = { current := (s.gain c).current - 32768 / s.settings.rampLength, target := 0 } := by
  simp [State.rampGain, State.target, h, rampStep_zero, stepSize, Config.unity]

theorem State.rampGain_of_live (h : (s.chan c).state = .live) :
    s.rampGain c = { current := rampStep (32768 / s.settings.rampLength) (s.target c) (s.gain c).current, target := s.target c } := by
  simp [State.rampGain, h, stepSize, Config.unity]

/-- R139: the rows of a LIVE channel. -/
theorem State.target_of_live (h : (s.chan c).state = .live) {n : Nat} (hn : (s.chan c).seat = some n) {ctx : Context}
    (ha : s.active = some ctx) :
    s.target c = if c ≠ .p ∧ s.floor = .held then (s.seat n).config.level * ctx.duckDepth / 32768 else (s.seat n).config.level := by
  simp [State.target, State.boundLevel, State.duckDepth, Chan.isOrdinary, Config.unity, h, hn, ha]

/-! ### The gains and the reports of a frame period (R138, R144) -/

/-- R139: a target and a ramp look only at the channels, the seats, the floor, the active context, the settings and the gains. -/
theorem State.rampGain_of_scan (h : t.sansScan = s.sansScan) : t.rampGain = s.rampGain := by
  rw [State.sansScan_eq h]; rfl

theorem State.framePeriod_gain (s : State) (r b : Option (List Byte)) (c : Chan) : (s.framePeriod r b).gain c = s.rampGain c := by
  have hstep : ∀ u : State, u.stepGains.gain c = u.rampGain c := fun u => PerChan.get_tabulate _ c
  obtain ⟨-, -, hgains⟩ := s.framePeriod_head r b
  rw [State.gain, hgains]
  exact (hstep _).trans (congrFun (State.rampGain_of_scan (s.emitFrame.sansScan_scanFrame r)) c)

/-- R144: the channels that a frame period reports. -/
def State.silenced (s : State) (c : Chan) : Bool :=
  (s.chan c).state == .releasing && (s.rampGain c).current == 0 && !s.owed.freed.contains c

theorem State.stepGains_freed (s : State) : s.stepGains.owed.freed = s.owed.freed ++ allChans.filter s.silenced := by
  have hreports : ∀ c, ({ s with gains := PerChan.tabulate s.rampGain } : State).reports c = s.silenced c := fun c => by
    rw [State.reports, State.gain, PerChan.get_tabulate]; rfl
  exact congrArg (s.owed.freed ++ ·) (List.filter_congr fun c _ => hreports c)

theorem State.framePeriod_freed (s : State) (r b : Option (List Byte)) :
    (s.framePeriod r b).owed.freed = s.owed.freed ++ allChans.filter s.silenced := by
  have hin : ∀ u : State, (u.headIn b).owed.freed = u.owed.freed := fun u => congrArg (·.owed.freed) (u.sansHeadIn_headIn b)
  have hout : ∀ u : State, (u.sendHeadFrame (uplink r)).owed.freed = u.owed.freed := fun u => by
    obtain ⟨-, -, -, -, -, -, -, -, ho⟩ := u.sendHeadFrame_keeps (uplink r)
    rw [ho]
  rw [State.framePeriod_def, hin, hout, State.gainsStepped, State.stepGains_freed, State.sansScan_eq (s.emitFrame.sansScan_scanFrame r)]
  rfl

theorem State.framePeriod_chan (s : State) (r b : Option (List Byte)) (c : Chan) : (s.framePeriod r b).chan c = s.chan c := by
  rw [State.sansFrame_eq (s.sansFrame_framePeriod r b)]; rfl

/-- R144: with none reported before, a channel is reported where it is RELEASING at gain 0 after the step. -/
theorem State.framePeriod_reports (hf : s.owed.freed = []) (r b : Option (List Byte)) :
    (s.framePeriod r b).owed.freed.Nodup ∧
      ∀ c, c ∈ (s.framePeriod r b).owed.freed ↔ ((s.chan c).state = .releasing ∧ ((s.framePeriod r b).gain c).current = 0) := by
  have hall : allChans.Nodup := by decide
  have hfreed : (s.framePeriod r b).owed.freed = allChans.filter s.silenced := by rw [State.framePeriod_freed, hf, List.nil_append]
  rw [hfreed]
  refine ⟨hall.filter _, fun c => ?_⟩
  rw [State.framePeriod_gain]
  simp [State.silenced, hf, mem_allChans]

end

/-- Settles O7: a frame period leaves every channel the gain of `State.rampGain`, and reports those that `State.silenced` says. -/
theorem framePeriodMovesGains : Obligations.FramePeriodMovesGains := by
  refine ⟨fun s r b hr => ⟨_, exec_framePeriod_of_ready hr r b, fun c => ?_⟩, fun s r b hr => ?_⟩
  swap
  · have hexec := exec_framePeriod_of_ready hr r b
    obtain ⟨-, hfreed, -⟩ := hr
    exact ⟨_, hexec, State.framePeriod_reports hfreed r b⟩
  rw [State.framePeriod_gain]
  refine ⟨State.rampGain_of_free, State.rampGain_of_releasing, fun n ctx hl hn ha => ?_, fun hl => ?_⟩
  · rw [State.rampGain_of_live hl]; exact State.target_of_live hl hn ha
  · rw [State.rampGain_of_live hl]
    exact ⟨fun h => rampStep_of_lt h _, fun h => rampStep_of_gt h _, fun h => by simp only [h, rampStep_self]⟩

end Sys2Proof.Machine
end

section
/-! ## A FREE channel is silent: what the floor's operations do to the channels (R104, R107, R137, R144)

No operation of the floor moves a gain, takes a report back or makes a channel FREE. What is left to say of each of them is that a channel
reported at gain 0 stays RELEASING: an End may come to it again, and a Grant binds a FREE channel only, which is never a reported one. -/

namespace Sys2Proof.Machine

section
variable {s t : State}

/-! ### The law and the updates it does not look at -/

theorem State.FreeIsSilent.free (h : s.FreeIsSilent) {c : Chan} (hc : (s.chan c).state = .free) : (s.gain c).current = 0 :=
  h.1 c (mem_allChans c) hc

theorem State.FreeIsSilent.reported (h : s.FreeIsSilent) {c : Chan} (hc : c ∈ s.owed.freed) :
    (s.chan c).state = .releasing ∧ (s.gain c).current = 0 := h.2 c hc

/-- A FREE channel is not reported any more. -/
theorem State.FreeIsSilent.unreported (h : s.FreeIsSilent) {c : Chan} (hc : (s.chan c).state = .free) : c ∉ s.owed.freed :=
  fun hm => by rw [(h.reported hm).1] at hc; cases hc

/-- What the law looks at: the channels, the gains and the reports. -/
def State.gainView (s : State) : PerChan Channel × PerChan Gain × List Chan := (s.channels, s.gains, s.owed.freed)

/-- An update of anything else. -/
theorem State.FreeIsSilent.of_same (h : s.FreeIsSilent) (e : t.gainView = s.gainView) : t.FreeIsSilent := by
  simp only [State.gainView, Prod.mk.injEq] at e
  obtain ⟨hchan, hgain, hfreed⟩ := e
  simpa only [State.FreeIsSilent, State.chan, State.gain, hchan, hgain, hfreed] using h

/-- R102: an operation of the floor leaves a channel's state, or makes it RELEASING, or makes a channel LIVE that is not reported. -/
theorem State.FreeIsSilent.of_frozen (h : s.FreeIsSilent) (hf : t.frozen = s.frozen)
    (hc : ∀ c, (t.chan c).state = (s.chan c).state ∨ (t.chan c).state = .releasing ∨
      (t.chan c).state = .live ∧ c ∉ s.owed.freed) : t.FreeIsSilent := by
  have hgain : ∀ c, t.gain c = s.gain c := fun c => (congrArg (fun u : State => u.gain c) hf : _)
  have hfreed : t.owed.freed = s.owed.freed := (congrArg (fun u : State => u.owed.freed) hf : _)
  refine ⟨fun c _ hfree => ?_, fun c hm => ?_⟩
  · rw [hgain]
    obtain he | he | ⟨he, -⟩ := hc c <;> rw [he] at hfree
    · exact h.free hfree
    · cases hfree
    · cases hfree
  · rw [hfreed] at hm
    obtain ⟨hstate, hzero⟩ := h.reported hm
    rw [hgain]
    obtain he | he | ⟨-, hno⟩ := hc c
    · exact ⟨he.trans hstate, hzero⟩
    · exact ⟨he, hzero⟩
    · exact absurd hm hno

/-- An operation of the floor that leaves the channels. -/
theorem State.FreeIsSilent.of_channels (h : s.FreeIsSilent) (hf : t.frozen = s.frozen) (hc : t.channels = s.channels) :
    t.FreeIsSilent := h.of_frozen hf fun c => .inl (by simp only [State.chan, hc])

theorem State.FreeIsSilent.foldl {α : Type} {f : State → α → State} (hf : ∀ s a, s.FreeIsSilent → (f s a).FreeIsSilent) (l : List α)
    (h : s.FreeIsSilent) : (l.foldl f s).FreeIsSilent := by
  induction l generalizing s with
  | nil => exact h
  | cons a l ih => exact ih (hf s a h)

theorem State.FreeIsSilent.raise (h : s.FreeIsSilent) (x : Notice) : (s.raise x).FreeIsSilent := h.of_channels (by simp) (by simp)

theorem State.FreeIsSilent.reply (h : s.FreeIsSilent) (tag : Byte) (b : ReplyBody) : (s.reply tag b).FreeIsSilent := h.of_same rfl

theorem State.FreeIsSilent.updSeat (h : s.FreeIsSilent) (n : Nat) (f : Seat → Seat) : (s.updSeat n f).FreeIsSilent :=
  h.of_same (by simp [State.gainView])

/-- A channel's record replaced by one in the same state. -/
theorem State.FreeIsSilent.setChan (h : s.FreeIsSilent) {c : Chan} {r : Channel} (hr : r.state = (s.chan c).state) :
    (s.setChan c r).FreeIsSilent := h.of_frozen (by simp) fun d => by
  by_cases hd : d = c
  · subst hd; rw [State.chan_setChan_same]; exact .inl hr
  · rw [State.chan_setChan_ne _ _ hd]; exact .inl rfl

/-! ### The waiting list, Grant and End (R75, R76, R104, R107) -/

theorem State.FreeIsSilent.removeWaiting (h : s.FreeIsSilent) (n : Nat) (r : Reason) : (s.removeWaiting n r).FreeIsSilent :=
  h.of_channels (by simp) (by simp [State.removeWaiting])

theorem State.FreeIsSilent.clearWaiting (h : s.FreeIsSilent) (r : Reason) : (s.clearWaiting r).FreeIsSilent :=
  State.FreeIsSilent.foldl (fun _ e hu => hu.removeWaiting e.seat r) _ h

theorem State.FreeIsSilent.insertWaiting (h : s.FreeIsSilent) (n k i : Nat) : (s.insertWaiting n k i).FreeIsSilent :=
  h.of_channels (by simp) (by simp [State.insertWaiting])

theorem State.FreeIsSilent.joinList (h : s.FreeIsSilent) (c : Context) (n k : Nat) : (s.joinList c n k).FreeIsSilent := by
  unfold State.joinList
  split
  · exact h.raise _
  · split <;> [exact h.insertWaiting n k _; exact h.raise _]

theorem State.FreeIsSilent.grant (h : s.FreeIsSilent) {c : Chan} (hc : c ∉ s.owed.freed) (n : Nat) (l : Bool) :
    (s.grant c n l).FreeIsSilent := h.of_frozen (by simp) fun d => by
  by_cases hd : d = c
  · subst hd; rw [State.grant_chan_same]; exact .inr (.inr ⟨rfl, hc⟩)
  · rw [State.grant_chan_ne _ _ _ hd]; exact .inl rfl

/-- R78: a Grant where there is room. -/
theorem State.FreeIsSilent.grantRoom (h : s.FreeIsSilent) {c : Chan} (hr : s.room = some c) (n : Nat) (l : Bool) :
    (s.grant c n l).FreeIsSilent := by
  obtain ⟨-, hfree, -⟩ := State.room_free hr
  exact h.grant (h.unreported hfree) n l

theorem State.FreeIsSilent.release (h : s.FreeIsSilent) (c : Chan) (n : Nat) (r : Reason) : (s.release c n r).FreeIsSilent :=
  h.of_frozen (by simp) fun d => by
    by_cases hd : d = c
    · subst hd; rw [State.release_chan_same]; exact .inr (.inl rfl)
    · rw [State.release_chan_ne _ _ _ hd]; exact .inl rfl

theorem State.FreeIsSilent.releaseSpeakers (h : s.FreeIsSilent) (r : Reason) : (s.releaseSpeakers r).FreeIsSilent :=
  State.FreeIsSilent.foldl (fun _ e hu => hu.release e.chan e.seat r) _ h

/-! ### Fill, and the ends that fill completes (R88, R109, R131) -/

theorem State.FreeIsSilent.grantHeads (k : Nat) (h : s.FreeIsSilent) : (State.grantHeads k s).FreeIsSilent := by
  induction k generalizing s with
  | zero => exact h
  | succ k ih =>
    unfold State.grantHeads
    split
    · next e rest c _ hr =>
      have hlist : { s with waiting := rest }.FreeIsSilent := h.of_same rfl
      exact ih (hlist.grantRoom hr _ _)
    · exact h

theorem State.FreeIsSilent.fill (h : s.FreeIsSilent) : s.fill.FreeIsSilent := by
  unfold State.fill
  split <;> [exact h.grantHeads _; exact h]

theorem State.FreeIsSilent.endOrdinary (h : s.FreeIsSilent) (c : Chan) (n : Nat) (r : Reason) : (s.endOrdinary c n r).FreeIsSilent :=
  (h.release c n r).fill

theorem State.FreeIsSilent.endSpeakers (h : s.FreeIsSilent) (r : Reason) : (s.endSpeakers r).FreeIsSilent :=
  State.FreeIsSilent.foldl (fun _ e hu => hu.endOrdinary e.chan e.seat r) _ h

theorem State.FreeIsSilent.endIntervention (h : s.FreeIsSilent) (n : Nat) : (s.endIntervention n).FreeIsSilent := by
  have hopen : (s.withFloor .opened).FreeIsSilent := h.of_same rfl
  unfold State.endIntervention
  split
  · exact hopen
  · next c _ =>
    refine State.FreeIsSilent.fill ?_
    cases c.priorityEnd with
    | resume => exact hopen.raise _
    | clear => exact (hopen.raise _).endSpeakers _

theorem State.FreeIsSilent.endPriority (h : s.FreeIsSilent) (n : Nat) (r : Reason) : (s.endPriority n r).FreeIsSilent :=
  (h.release .p n r).endIntervention n

theorem State.FreeIsSilent.endSeat (h : s.FreeIsSilent) (n : Nat) (r : Reason) : (s.endSeat n r).FreeIsSilent := by
  unfold State.endSeat
  split <;> [exact h; exact h.endPriority n r; exact h.endOrdinary _ n r]

theorem State.FreeIsSilent.endHolder (h : s.FreeIsSilent) (r : Reason) : (s.endHolder r).FreeIsSilent := by
  unfold State.endHolder
  split <;> [exact h.endPriority _ r; exact h]

/-! ### Seats taken off the floor (R22, R32, R92, R98) -/

theorem State.FreeIsSilent.takeOff (h : s.FreeIsSilent) (l : List Nat) (r : Reason) : (s.takeOff l r).FreeIsSilent :=
  State.FreeIsSilent.foldl (fun _ n hu => hu.endSeat n r) _ (State.FreeIsSilent.foldl (fun _ n hu => hu.removeWaiting n r) _ h)

theorem State.FreeIsSilent.cancelFloor (h : s.FreeIsSilent) : s.cancelFloor.FreeIsSilent := (h.clearWaiting _).endSpeakers _

theorem State.FreeIsSilent.breakFloor (h : s.FreeIsSilent) : s.breakFloor.FreeIsSilent :=
  ((h.clearWaiting _).endSpeakers _).endHolder _

/-! ### Requests (R75, R81 to R86) -/

theorem State.FreeIsSilent.insertHead (h : s.FreeIsSilent) (c : Context) (n k : Nat) : (s.insertHead c n k).FreeIsSilent := by
  refine State.FreeIsSilent.insertWaiting ?_ n k 0
  split
  · exact h
  · split <;> [exact h; exact h.removeWaiting _ _]

theorem State.FreeIsSilent.serveDisplacer (h : s.FreeIsSilent) (c : Context) (n k : Nat) : (s.serveDisplacer c n k).FreeIsSilent := by
  unfold State.serveDisplacer
  split
  · next hr => exact (h.grantRoom hr n false).fill
  · exact (h.insertHead c n k).fill

theorem State.FreeIsSilent.displace (h : s.FreeIsSilent) (c : Context) (n k : Nat) : (s.displace c n k).FreeIsSilent := by
  unfold State.displace
  split
  · exact h.joinList c n k
  · split <;> [exact h.raise _; exact (h.release _ _ _).serveDisplacer c n k]

theorem State.FreeIsSilent.requestOpen (h : s.FreeIsSilent) (c : Context) (n k : Nat) : (s.requestOpen c n k).FreeIsSilent := by
  unfold State.requestOpen
  split
  · next hr => exact h.grantRoom hr n false
  · exact h.raise _
  · next hr => split <;> [exact h.grantRoom hr n false; exact h.joinList c n k]
  · exact h.joinList c n k
  · exact h.joinList c n k
  · next hr => exact h.grantRoom hr n false
  · exact h.displace c n k

theorem State.FreeIsSilent.requestHeld (h : s.FreeIsSilent) (c : Context) (n k : Nat) : (s.requestHeld c n k).FreeIsSilent := by
  unfold State.requestHeld
  split <;> [exact h.raise _; exact h.joinList c n k]

theorem State.FreeIsSilent.judgeRequest (h : s.FreeIsSilent) (n k : Nat) : (s.judgeRequest n k).FreeIsSilent := by
  unfold State.judgeRequest
  split
  · exact h.raise _
  split
  · exact h.raise _
  split
  · split
    · exact h
    · split <;> [exact h.requestHeld _ n k; exact h.requestOpen _ n k]
  · exact h.raise _

/-! ### Withdraw, next, cancel and the priority intervention (R87, R90 to R92, R124 to R131) -/

theorem State.FreeIsSilent.judgeWithdraw (h : s.FreeIsSilent) (n : Nat) : (s.judgeWithdraw n).FreeIsSilent := by
  unfold State.judgeWithdraw
  split <;> [exact h; exact h.removeWaiting n _; exact h.endSeat n _]

theorem State.FreeIsSilent.takeNext (h : s.FreeIsSilent) : s.takeNext.FreeIsSilent := by
  unfold State.takeNext
  split
  · exact h
  · split <;> [exact h.grantHeads _; exact h.fill; exact h.fill; exact h]

theorem State.FreeIsSilent.judgeNext (h : s.FreeIsSilent) : s.judgeNext.FreeIsSilent := by
  unfold State.judgeNext
  split <;> [exact h.takeNext; exact h]

theorem State.FreeIsSilent.judgeCancel (h : s.FreeIsSilent) : s.judgeCancel.FreeIsSilent := by
  unfold State.judgeCancel
  split <;> [exact h; exact h.cancelFloor]

theorem State.FreeIsSilent.escalate (h : s.FreeIsSilent) (n : Nat) : (s.escalate n).FreeIsSilent := by
  unfold State.escalate
  split <;> [exact h; exact h.removeWaiting n _; exact h.endSeat n _]

/-- R124, R125: channel P is FREE when the intervention may start, so it is not among the reported channels, which the chair's
escalation leaves. -/
theorem State.FreeIsSilent.judgePriorityHeld (h : s.FreeIsSilent) (n : Nat) : (s.judgePriorityHeld n).FreeIsSilent := by
  unfold State.judgePriorityHeld
  split
  · next hmay =>
    obtain ⟨-, hp, -⟩ := hmay
    have hfreed : (s.escalate n).owed.freed = s.owed.freed := (congrArg (fun u : State => u.owed.freed) (s.frozen_escalate n) : _)
    have hgrant := (h.escalate n).grant (c := .p) (by rw [hfreed]; exact h.unreported hp) n false
    exact State.FreeIsSilent.raise (s := ((s.escalate n).grant .p n false).withFloor .held) (hgrant.of_same rfl) _
  · exact h

theorem State.FreeIsSilent.judgePriorityReleased (h : s.FreeIsSilent) (n : Nat) : (s.judgePriorityReleased n).FreeIsSilent := by
  unfold State.judgePriorityReleased
  split <;> [exact h.endPriority n _; exact h]

theorem State.FreeIsSilent.answer (h : s.FreeIsSilent) (a : KeyAct) (n k : Nat) : (s.answer a n k).FreeIsSilent := by
  cases a with
  | request => exact h.judgeRequest n k
  | withdraw => exact h.judgeWithdraw n
  | next => exact h.judgeNext
  | cancel => exact h.judgeCancel
  | priorityHeld => exact h.judgePriorityHeld n
  | priorityReleased => exact h.judgePriorityReleased n

/-! ### Changeover and closing (R61 to R67) -/

theorem State.FreeIsSilent.clearFloor (h : s.FreeIsSilent) (r : Reason) : (s.clearFloor r).FreeIsSilent :=
  (h.releaseSpeakers r).clearWaiting r

theorem State.FreeIsSilent.releaseHolder (h : s.FreeIsSilent) (r : Reason) : (s.releaseHolder r).FreeIsSilent := by
  unfold State.releaseHolder
  split <;> [exact h.release .p _ r; exact h]

theorem State.FreeIsSilent.raiseFitWarning (h : s.FreeIsSilent) (e : Speaker) (before after : Bool) (time : Option Nat) :
    (s.raiseFitWarning e before after time).FreeIsSilent := by
  unfold State.raiseFitWarning
  split
  · exact h
  · split <;> [exact h.raise _; exact h]

theorem State.FreeIsSilent.meetExpiry (h : s.FreeIsSilent) (c : Context) (e : Speaker) (time : Option Nat) :
    (s.meetExpiry c e time).FreeIsSilent := by
  unfold State.meetExpiry
  split <;> [exact h.release _ _ _; exact h]

theorem State.FreeIsSilent.fitTimer (h : s.FreeIsSilent) (c : Context) (e : Speaker) : (s.fitTimer c e).FreeIsSilent := by
  unfold State.fitTimer
  exact (State.FreeIsSilent.raiseFitWarning (h.setChan (by rfl)) _ _ _ _).meetExpiry c e _

theorem State.FreeIsSilent.carryFloor (h : s.FreeIsSilent) (c : Context) : (s.carryFloor c).FreeIsSilent := by
  have release : ∀ (r : Reason) (l : List Speaker) (u : State), u.FreeIsSilent → (u.releaseList r l).FreeIsSilent :=
    fun r l _ hu => State.FreeIsSilent.foldl (fun _ e hv => hv.release e.chan e.seat r) l hu
  have remove : ∀ (r : Reason) (l : List WaitEntry) (u : State), u.FreeIsSilent → (u.removeList r l).FreeIsSilent :=
    fun r l _ hu => State.FreeIsSilent.foldl (fun _ e hv => hv.removeWaiting e.seat r) l hu
  have direct : ∀ u : State, u.FreeIsSilent → (u.fitDirect c).FreeIsSilent := fun u hu => by
    unfold State.fitDirect
    split <;> [exact hu.clearWaiting _; exact hu]
  exact State.FreeIsSilent.foldl (fun _ e hu => hu.fitTimer c e) _
    (remove _ _ _ (direct _ (remove _ _ _ (release _ _ _ (release _ _ _ h)))))

theorem State.FreeIsSilent.changeover (h : s.FreeIsSilent) (c : Context) : (s.changeover c).FreeIsSilent := by
  refine (State.FreeIsSilent.raise ?_ _).fill
  split <;> [exact h.carryFloor c; exact h.clearFloor _]

theorem State.FreeIsSilent.closeFloor (h : s.FreeIsSilent) (item : Nat) (r : Reason) : (s.closeFloor item r).FreeIsSilent := by
  have hclosed : ((s.withAgenda []).withFloor .closed).FreeIsSilent := h.of_same rfl
  exact ((hclosed.releaseHolder r).clearFloor r).raise _

/-! ### Timers and channels freed (R113 to R121, R144) -/

theorem State.FreeIsSilent.warnAfter (h : s.FreeIsSilent) (x : Context) (c : Chan) (n r : Nat) : (s.warnAfter x c n r).FreeIsSilent := by
  unfold State.warnAfter
  split <;> [exact State.FreeIsSilent.raise (h.setChan (by rfl)) _; exact h]

theorem State.FreeIsSilent.expireAfter (h : s.FreeIsSilent) (x : Context) (c : Chan) (n : Nat) : (s.expireAfter x c n).FreeIsSilent := by
  unfold State.expireAfter
  split <;> [exact h.endOrdinary c n _; exact State.FreeIsSilent.raise (h.setChan (by rfl)) _]

theorem State.FreeIsSilent.countDown (h : s.FreeIsSilent) (x : Context) (c : Chan) (n r : Nat) : (s.countDown x c n r).FreeIsSilent := by
  have hwarned := State.FreeIsSilent.warnAfter (h.setChan (c := c) (r := { s.chan c with remaining := some r }) rfl) x c n r
  unfold State.countDown
  simp only
  split <;> [exact hwarned.expireAfter x c n; exact hwarned]

theorem State.FreeIsSilent.tick (h : s.FreeIsSilent) (c : Chan) : (s.tick c).FreeIsSilent := by
  have hstop : (s.stopTimer c).FreeIsSilent := h.of_same rfl
  unfold State.tick
  simp only
  split
  · split <;> [exact hstop; exact hstop.countDown _ c _ _]
  · exact hstop

/-- R113: a reported channel stands at gain 0, so it may become FREE; its report is taken with that. -/
theorem State.FreeIsSilent.freeChan (h : s.FreeIsSilent) {c : Chan} (hc : c ∈ s.owed.freed) : (s.freeChan c).FreeIsSilent := by
  refine ⟨fun d _ hd => ?_, fun d hd => ?_⟩
  · rw [State.freeChan, State.chan_setOwed] at hd
    by_cases hdc : d = c
    · rw [hdc]; exact (h.reported hc).2
    · rw [State.chan_setChan_ne _ _ hdc] at hd
      exact h.free hd
  · obtain ⟨hm, hdc⟩ := List.mem_filter.1 hd
    rw [State.freeChan, State.chan_setOwed, State.chan_setChan_ne _ _ (by simpa using hdc)]
    exact h.reported hm

theorem State.FreeIsSilent.takeFreed (h : s.FreeIsSilent) (c : Chan) : (s.takeFreed c).FreeIsSilent := by
  unfold State.takeFreed State.freedDue
  split
  · next hdue =>
    rw [Bool.and_eq_true, List.contains_iff_mem] at hdue
    exact (h.freeChan hdue.1).fill
  · exact h

theorem State.FreeIsSilent.takeAllFreed (h : s.FreeIsSilent) : s.takeAllFreed.FreeIsSilent := by
  have hall : (s.owed.freed.foldl State.takeFreed s).FreeIsSilent := State.FreeIsSilent.foldl (fun _ c hu => hu.takeFreed c) _ h
  exact ⟨fun _ _ => hall.free, fun _ hc => nomatch hc⟩

end

end Sys2Proof.Machine
end

section
/-! ## A FREE channel is silent: the chain, the frame step and the directives (R137, R144) -/

namespace Sys2Proof.Machine

section
variable {s t : State}

/-! ### Losses, key actions and the audit (R10 to R12, R32, R51, R152, R156) -/

theorem State.FreeIsSilent.takeLosses (h : s.FreeIsSilent) : s.takeLosses.FreeIsSilent := by
  have hset : (s.setOwed { s.owed with losses := [] }).FreeIsSilent := h.of_same rfl
  exact (State.FreeIsSilent.foldl (fun _ n hu => (hu.updSeat n Seat.lose).raise _) _ hset).takeOff _ _

theorem State.FreeIsSilent.declareLost (h : s.FreeIsSilent) (k : Nat) : (s.declareLost k).FreeIsSilent := by
  have hcount : { s with lostRun := min (s.lostRun + 1) Config.lostRunLimit, discarded := [] }.FreeIsSilent := h.of_same rfl
  have hbreak : ∀ u : State, u.FreeIsSilent → (u.breakTrunk k).FreeIsSilent := fun u hu => by
    have hdown : ({ u with trunk := .down }.raise (.trunkDown k)).FreeIsSilent :=
      State.FreeIsSilent.raise (s := { u with trunk := .down }) (hu.of_same rfl) _
    exact State.FreeIsSilent.breakFloor (s := State.loseAllSeats _) (hdown.of_same rfl)
  unfold State.declareLost
  simp only
  split <;> [exact hbreak _ hcount; exact hcount]

theorem State.FreeIsSilent.declareOwedLoss (h : s.FreeIsSilent) : s.declareOwedLoss.FreeIsSilent := by
  unfold State.declareOwedLoss
  split
  · exact h
  · exact State.FreeIsSilent.declareLost (s := s.setOwed { s.owed with lostSweep := none }) (h.of_same rfl) _

theorem State.FreeIsSilent.lostSweepStep (h : s.FreeIsSilent) : s.lostSweepStep.FreeIsSilent := by
  unfold State.lostSweepStep State.declareAwaitedLoss
  split
  · exact h.declareOwedLoss
  · split
    · exact h
    · split
      · exact State.FreeIsSilent.declareLost (s := { s with awaiting := none }) (h.of_same rfl) _
      · exact h

theorem State.FreeIsSilent.keepSlots (h : s.FreeIsSilent) (k : Nat) (rest : List KeySlot) : (s.keepSlots k rest).FreeIsSilent :=
  h.of_same rfl

theorem State.FreeIsSilent.spend (h : s.FreeIsSilent) (k : KeySlot) : (s.spend k).FreeIsSilent := by
  unfold State.spend
  split <;> [exact h.updSeat _ _; exact h]

theorem State.FreeIsSilent.closePresentation (h : s.FreeIsSilent) : s.closePresentation.FreeIsSilent := by
  unfold State.closePresentation
  split <;> [exact h.of_same rfl; exact h]

theorem State.FreeIsSilent.present (h : s.FreeIsSilent) (n : Nat) (a : KeyAct) {answer : State → Nat → State}
    (ha : ∀ (u : State) (k : Nat), u.FreeIsSilent → (answer u k).FreeIsSilent) : (s.present n a answer).FreeIsSilent := by
  obtain he | ⟨p, before, k, rest, -, -, -, -, -, he⟩ := s.present_cases n a answer
  · rw [he]; exact h
  have hkeep := (State.FreeIsSilent.foldl (fun _ j hu => hu.spend j) before h).keepSlots p.sweep rest
  rw [he, State.takeSlot]
  split
  · exact (hkeep.spend k).closePresentation
  · exact (ha _ _ hkeep).closePresentation

theorem State.FreeIsSilent.presentSlots (k : Nat) (l : List KeySlot) (h : s.FreeIsSilent) : (State.presentSlots k l s).FreeIsSilent := by
  induction l generalizing s with
  | nil => exact h
  | cons x l ih =>
    rw [State.presentSlots_cons]
    refine ih ?_
    cases hd : s.deriveSlot x with
    | none => rw [State.takeNextSlot_none hd]; exact (h.keepSlots k l).spend x
    | some a => rw [State.takeNextSlot_some hd]; exact (h.keepSlots k l).answer a x.seat k

theorem State.FreeIsSilent.presentAll (h : s.FreeIsSilent) : s.presentAll.FreeIsSilent := by
  unfold State.presentAll
  split
  · exact h
  · exact (h.presentSlots _ _).of_same rfl

theorem State.FreeIsSilent.compareAll (h : s.FreeIsSilent) (l : List AuditEntry) : (s.compareAll l).FreeIsSilent :=
  State.FreeIsSilent.foldl (fun u e hu => by unfold State.compareEntry; split <;> [exact hu.updSeat _ _; exact hu]) l h

theorem State.FreeIsSilent.removeReported (h : s.FreeIsSilent) (n : Nat) : (s.removeReported n).FreeIsSilent := by
  unfold State.removeReported
  split <;> [exact h; exact h.removeWaiting n _; exact h.endSeat n _]

theorem State.FreeIsSilent.reportOne (h : s.FreeIsSilent) : s.reportOne.FreeIsSilent := by
  unfold State.reportOne
  split
  · exact h
  · next n _ =>
    split
    · exact h
    · next sense _ =>
      have hflag := (h.raise (.discrepancy n sense)).updSeat n Seat.reported
      exact State.FreeIsSilent.removeReported (s := { (s.raise (.discrepancy n sense)).updSeat n Seat.reported with cursor := n })
        (hflag.of_same rfl) n

theorem State.FreeIsSilent.takeAudit (h : s.FreeIsSilent) : s.takeAudit.FreeIsSilent := by
  unfold State.takeAudit
  split
  · exact h
  · exact (State.FreeIsSilent.compareAll (s := s.setOwed { s.owed with audit := none }) (h.of_same rfl) _).reportOne

theorem State.FreeIsSilent.settleSweep (h : s.FreeIsSilent) : s.settleSweep.FreeIsSilent :=
  h.declareOwedLoss.presentAll.takeLosses.takeAudit

/-! ### The return of a sweep (R8, R28, R38) -/

theorem State.FreeIsSilent.trunkReturned (h : s.FreeIsSilent) (k : Nat) : (s.trunkReturned k).FreeIsSilent := by
  unfold State.trunkReturned
  split
  · exact h.of_same rfl
  · exact State.FreeIsSilent.raise (s := { s with lostRun := 0, trunk := .up }) (h.of_same rfl) _

theorem State.FreeIsSilent.handEntries (h : s.FreeIsSilent) (k : Nat) (ups : List UpHalf) : (s.handEntries k ups).FreeIsSilent := by
  have hfound : (s.raiseFound (numbersOf (fun x => x.2.answered && !x.1.present) 1 (pairUp s.seats ups))).FreeIsSilent :=
    State.FreeIsSilent.foldl (fun _ n hu => hu.raise _) _ h
  exact hfound.of_same rfl

theorem State.FreeIsSilent.takeReturn (h : s.FreeIsSilent) : s.takeReturn.FreeIsSilent := by
  unfold State.takeReturn
  split
  · exact h
  · next r _ =>
    have hset : (s.setOwed { s.owed with returned := none }).FreeIsSilent := h.of_same rfl
    exact ((hset.settleSweep.trunkReturned r.sweep).handEntries _ _).closePresentation

/-! ### The interval start (R4 to R7, R49, R111, R115) -/

theorem State.FreeIsSilent.takeBlink (h : s.FreeIsSilent) : s.takeBlink.FreeIsSilent := by
  unfold State.takeBlink
  split <;> [exact h.of_same rfl; exact h]

theorem State.FreeIsSilent.takeLockout (h : s.FreeIsSilent) (n : Nat) : (s.takeLockout n).FreeIsSilent := by
  unfold State.takeLockout
  split <;> [exact h.of_same (by simp [State.gainView]); exact h]

theorem State.FreeIsSilent.takeLockouts (h : s.FreeIsSilent) : s.takeLockouts.FreeIsSilent :=
  State.FreeIsSilent.foldl (fun _ n hu => hu.takeLockout n) _ h

theorem State.FreeIsSilent.takeTimers (h : s.FreeIsSilent) : s.takeTimers.FreeIsSilent :=
  State.FreeIsSilent.foldl (fun _ c hu => by unfold State.takeTimer; split <;> [exact hu.tick c; exact hu]) _ h

theorem State.FreeIsSilent.settleInterval (h : s.FreeIsSilent) : s.settleInterval.FreeIsSilent :=
  h.takeBlink.takeLockouts.takeTimers.declareOwedLoss.takeReturn

theorem State.FreeIsSilent.emitSweep (h : s.FreeIsSilent) : s.emitSweep.FreeIsSilent := by
  rw [State.emitSweep_eq]; exact h.of_same rfl

/-- R111: a held count is not a channel's state. -/
theorem State.FreeIsSilent.countHeld (h : s.FreeIsSilent) : s.countHeld.FreeIsSilent :=
  h.of_frozen s.frozen_countHeld fun c => .inl (by rw [State.chan_countHeld, Channel.countHeld]; split <;> rfl)

theorem State.FreeIsSilent.countInterval (h : s.FreeIsSilent) : s.countInterval.FreeIsSilent := by
  have hlockouts : s.countHeld.countLockouts.FreeIsSilent := h.countHeld.of_same rfl
  exact State.FreeIsSilent.foldl (fun _ c hu => by unfold State.countTimer; split <;> [exact hu.of_same rfl; exact hu.tick c]) _ hlockouts

theorem State.FreeIsSilent.startInterval (h : s.FreeIsSilent) (o : IntervalOrder) : (s.startInterval o).FreeIsSilent := by
  unfold State.startInterval
  split
  · cases o with
    | emissionFirst => exact h.settleInterval.emitSweep.countInterval
    | countsFirst => exact h.settleInterval.countInterval.takeLockouts.takeTimers.emitSweep
  · exact h

/-! ### The frame period (R13, R138, R139, R144) -/

theorem State.FreeIsSilent.takeLock (h : s.FreeIsSilent) : s.takeLock.FreeIsSilent := by
  unfold State.takeLock
  split <;> [exact h.of_same rfl; exact h]

theorem State.FreeIsSilent.takeUnlock (h : s.FreeIsSilent) : s.takeUnlock.FreeIsSilent := by
  rw [State.sansUnlock_eq s.sansUnlock_takeUnlock]; exact h.of_same rfl

theorem State.FreeIsSilent.beforeFrame (h : s.FreeIsSilent) : s.beforeFrame.FreeIsSilent := by
  have hstart := h.takeLock.takeUnlock.takeAllFreed.startInterval .emissionFirst
  unfold State.beforeFrame State.settleFirst
  split <;> [exact hstart.settleSweep; exact hstart]

/-- R139, R144: the frame step holds a FREE channel's gain at 0, and a reported channel, old or new, ends it RELEASING at gain 0. -/
theorem State.FreeIsSilent.framePeriod (h : s.FreeIsSilent) (r b : Option (List Byte)) : (s.framePeriod r b).FreeIsSilent := by
  refine ⟨fun c _ hc => ?_, fun c hc => ?_⟩
  · rw [State.framePeriod_chan] at hc
    rw [State.framePeriod_gain, State.rampGain_of_free hc]
  · rw [State.framePeriod_chan, State.framePeriod_gain]
    rw [State.framePeriod_freed, List.mem_append] at hc
    obtain hold | hnew := hc
    · obtain ⟨hstate, hzero⟩ := h.reported hold
      exact ⟨hstate, by rw [State.rampGain_of_releasing hstate, hzero, Nat.zero_sub]⟩
    · obtain ⟨-, hsilent⟩ := List.mem_filter.1 hnew
      simp only [State.silenced, Bool.and_eq_true, beq_iff_eq] at hsilent
      exact hsilent.1

theorem State.FreeIsSilent.of_input (h : s.FreeIsSilent) (e : t.sansInput = s.sansInput) : t.FreeIsSilent := by
  rw [State.sansInput_eq e]; exact h.of_same rfl

theorem State.FreeIsSilent.of_output (h : s.FreeIsSilent) (e : t.sansOutput = s.sansOutput) : t.FreeIsSilent := by
  rw [State.sansOutput_eq e]; exact h.of_same rfl

/-! ### The agenda's directives and the seat table's (R20 to R24, R58 to R60, R68, R69, R159) -/

theorem State.FreeIsSilent.stageItem (h : s.FreeIsSilent) (tag : Byte) (c : Context) : (s.stageItem tag c).FreeIsSilent := by
  unfold State.stageItem
  split
  · have hopen : ((s.withAgenda [c]).withFloor .opened).FreeIsSilent := h.of_same rfl
    exact ((hopen.raise _).fill).reply tag _
  · exact h.of_same rfl
  · exact h.reply tag _

theorem State.FreeIsSilent.advanceItem (h : s.FreeIsSilent) (tag : Byte) : (s.advanceItem tag).FreeIsSilent := by
  unfold State.advanceItem
  split
  · exact h.reply tag _
  · next a rest _ =>
    split
    · exact h.reply tag _
    · cases rest with
      | cons n later => exact (State.FreeIsSilent.changeover (s := s.withAgenda (n :: later)) (h.of_same rfl) n).reply tag _
      | nil =>
        simp only
        split <;> [exact h.reply tag _; exact (h.closeFloor _ _).reply tag _]

theorem State.FreeIsSilent.flushAgenda (h : s.FreeIsSilent) (tag : Byte) : (s.flushAgenda tag).FreeIsSilent := by
  unfold State.flushAgenda
  split
  · exact h.reply tag _
  · next a rest _ =>
    have hkept : (s.withAgenda [a]).FreeIsSilent := h.of_same rfl
    split <;> [exact (((hkept.clearFloor _).endHolder _).fill).reply tag _; exact (h.closeFloor _ _).reply tag _]

theorem State.FreeIsSilent.loadSeats (h : s.FreeIsSilent) (tag : Byte) (first : Nat) (l : List SeatConfig) :
    (s.loadSeats tag first l).FreeIsSilent := by
  have hwritten : (s.writeConfigs first l).FreeIsSilent := by rw [State.writeConfigs_eq]; exact h.of_same rfl
  exact (hwritten.takeOff _ _).reply tag _

theorem State.FreeIsSilent.clearFlag (h : s.FreeIsSilent) (tag : Byte) (k : Nat) : (s.clearFlag tag k).FreeIsSilent := by
  unfold State.clearFlag
  split
  · exact h.of_same rfl
  · split <;> [exact (h.updSeat k _).reply tag _; exact h.reply tag _]

/-! ### The floor's directives (R91 to R96, R119, R120, R168) -/

theorem State.FreeIsSilent.operatorGrant (h : s.FreeIsSilent) (tag : Byte) (n : Nat) : (s.operatorGrant tag n).FreeIsSilent := by
  have hgrant : (s.grantByOperator tag n).FreeIsSilent := by
    have hleft : (s.leaveSilently n).FreeIsSilent := h.of_same rfl
    unfold State.grantByOperator
    split
    · exact h.reply tag _
    · next hr => exact (State.FreeIsSilent.grantRoom hleft hr n _).reply tag _
  unfold State.operatorGrant
  split
  · exact h.reply tag _
  split
  · exact h.reply tag _
  split
  · exact h.reply tag _
  split
  · split <;> [exact h.reply tag _; exact hgrant]
  · exact h.reply tag _

theorem State.FreeIsSilent.operatorRevoke (h : s.FreeIsSilent) (tag : Byte) (n : Nat) : (s.operatorRevoke tag n).FreeIsSilent := by
  unfold State.operatorRevoke
  split <;> [exact (h.endSeat n _).reply tag _; exact (h.removeWaiting n _).reply tag _; exact h.reply tag _]

theorem State.FreeIsSilent.operatorEnqueue (h : s.FreeIsSilent) (tag : Byte) (n i : Nat) : (s.operatorEnqueue tag n i).FreeIsSilent := by
  unfold State.operatorEnqueue
  split
  · exact h.reply tag _
  split
  swap
  · exact h.reply tag _
  split
  · exact h.reply tag _
  split
  · exact h.reply tag _
  split <;> [exact ((h.insertWaiting n _ _).fill).reply tag _; exact h.reply tag _]

theorem State.FreeIsSilent.operatorRemove (h : s.FreeIsSilent) (tag : Byte) (n : Nat) : (s.operatorRemove tag n).FreeIsSilent := by
  unfold State.operatorRemove
  split <;> [exact (h.removeWaiting n _).reply tag _; exact h.reply tag _; exact h.reply tag _]

theorem State.FreeIsSilent.operatorNext (h : s.FreeIsSilent) (tag : Byte) : (s.operatorNext tag).FreeIsSilent := by
  unfold State.operatorNext
  split <;> [exact h.reply tag _; exact h.reply tag _; exact h.takeNext.reply tag _]

theorem State.FreeIsSilent.operatorCancel (h : s.FreeIsSilent) (tag : Byte) : (s.operatorCancel tag).FreeIsSilent := by
  unfold State.operatorCancel
  split <;> [exact h.reply tag _; exact h.cancelFloor.reply tag _]

theorem State.FreeIsSilent.operatorExtend (h : s.FreeIsSilent) (tag : Byte) (n k : Nat) : (s.operatorExtend tag n k).FreeIsSilent := by
  unfold State.operatorExtend
  split
  · exact h.reply tag _
  · exact h.reply tag _
  · split <;> [exact h.reply tag _; exact State.FreeIsSilent.reply (h.setChan (by rfl)) tag _]

theorem State.FreeIsSilent.setGeneral (h : s.FreeIsSilent) (tag : Byte) (r : GeneralRecord) : (s.setGeneral tag r).FreeIsSilent :=
  (State.FreeIsSilent.fill (s := { s with settings := r.settings, rotation := r.rotation.getD s.rotation }) (h.of_same rfl)).reply tag _

/-! ### Dispatch, and every command -/

theorem State.FreeIsSilent.oldest {e : Entry} (h : s.FreeIsSilent) (ho : s.oldest = some (e, t)) : t.FreeIsSilent := by
  unfold State.oldest at ho
  split at ho
  · cases ho
  · split at ho <;> cases ho
    exact h.of_same rfl

/-- A dispatch keeps the law where the directive's owner does. -/
theorem State.FreeIsSilent.dispatch (h : s.FreeIsSilent) (k : Nat) {owner : State → Byte → Directive → State}
    (ho : ∀ (u : State) (tag : Byte) (d : Directive), u.FreeIsSilent → (owner u tag d).FreeIsSilent) :
    (s.dispatch k owner).FreeIsSilent := by
  unfold State.dispatch
  split
  · exact h
  · next hu =>
    split
    · split <;> [exact (h.oldest hu).reply _ _; exact ho _ _ _ (h.oldest hu)]
    · exact h

theorem State.FreeIsSilent.dispatchSkip (h : s.FreeIsSilent) : s.dispatchSkip.FreeIsSilent := by
  unfold State.dispatchSkip
  split
  · exact h
  · next ho => split <;> [exact (h.oldest ho).reply _ _; exact h]

theorem State.FreeIsSilent.dispatchUnknown (h : s.FreeIsSilent) : s.dispatchUnknown.FreeIsSilent := by
  unfold State.dispatchUnknown
  split
  · exact h
  · next ho => split <;> [exact (h.oldest ho).reply _ _; exact h]

/-- R114, R137: after pin reset every channel is FREE at gain 0, and none is reported. -/
theorem State.freeIsSilent_reset : State.reset.FreeIsSilent := by decide

/-- Every command keeps the FREE channels at gain 0. -/
theorem State.FreeIsSilent.exec (h : s.FreeIsSilent) {c : Instr} (ht : exec c s = .next t) : t.FreeIsSilent := by
  cases c with
  | pinReset => cases ht; exact State.freeIsSilent_reset.of_same rfl
  | framePeriod r b => cases ht; exact h.beforeFrame.framePeriod r b
  | headLinkLock => cases ht; exact h.takeLock
  | headLinkUnlock => cases ht; exact h.takeUnlock
  | sweepIntervalStart o => cases ht; exact h.startInterval o
  | blinkPhaseToggle => cases ht; exact h.takeBlink
  | lockoutExpiry n => cases ht; exact h.takeLockout n
  | expired c => cases ht; split <;> [exact h.tick c; exact h]
  | timeOver c => cases ht; split <;> [exact h.tick c; exact h]
  | lostSweep => cases ht; exact h.lostSweepStep
  | trunkDown => cases ht; split <;> [exact h.lostSweepStep; exact h]
  | sweepReturned => cases ht; exact h.takeReturn
  | seatLost => cases ht; exact h.takeLosses
  | request n => cases ht; exact h.present n .request fun u k hu => hu.judgeRequest n k
  | withdraw n => cases ht; exact h.present n .withdraw fun u _ hu => hu.judgeWithdraw n
  | nextAction n => cases ht; exact h.present n .next fun u _ hu => hu.judgeNext
  | cancelAction n => cases ht; exact h.present n .cancel fun u _ hu => hu.judgeCancel
  | priorityHeld n => cases ht; exact h.present n .priorityHeld fun u _ hu => hu.judgePriorityHeld n
  | priorityReleased n => cases ht; exact h.present n .priorityReleased fun u _ hu => hu.judgePriorityReleased n
  | auditSweep => cases ht; exact h.takeAudit
  | channelFreed c => cases ht; exact h.takeFreed c
  | messageHeader => cases ht; exact h.of_input s.sansInput_takeHeader
  | directiveComplete => cases ht; exact h.of_same rfl
  | skipEntryDispatch => cases ht; exact h.dispatchSkip
  | unknownKind => cases ht; exact h.dispatchUnknown
  | loadSeats => cases ht; exact h.dispatch 1 fun u tag d hu => by split <;> [exact hu.loadSeats tag _ _; exact hu]
  | readSeats => cases ht; exact h.dispatch 2 fun u tag d hu => by split <;> [exact hu.reply tag _; exact hu]
  | setGeneral => cases ht; exact h.dispatch 3 fun u tag d hu => by split <;> [exact hu.setGeneral tag _; exact hu]
  | stageItem => cases ht; exact h.dispatch 4 fun u tag d hu => by split <;> [exact hu.stageItem tag _; exact hu]
  | advanceItem => cases ht; exact h.dispatch 5 fun u tag d hu => by split <;> [exact hu.advanceItem tag; exact hu]
  | flushAgenda => cases ht; exact h.dispatch 6 fun u tag d hu => by split <;> [exact hu.flushAgenda tag; exact hu]
  | grant => cases ht; exact h.dispatch 7 fun u tag d hu => by split <;> [exact hu.operatorGrant tag _; exact hu]
  | revoke => cases ht; exact h.dispatch 8 fun u tag d hu => by split <;> [exact hu.operatorRevoke tag _; exact hu]
  | enqueue => cases ht; exact h.dispatch 9 fun u tag d hu => by split <;> [exact hu.operatorEnqueue tag _ _; exact hu]
  | remove => cases ht; exact h.dispatch 10 fun u tag d hu => by split <;> [exact hu.operatorRemove tag _; exact hu]
  | next => cases ht; exact h.dispatch 11 fun u tag d hu => by split <;> [exact hu.operatorNext tag; exact hu]
  | cancelAll => cases ht; exact h.dispatch 12 fun u tag d hu => by split <;> [exact hu.operatorCancel tag; exact hu]
  | extend => cases ht; exact h.dispatch 13 fun u tag d hu => by split <;> [exact hu.operatorExtend tag _ _; exact hu]
  | clearFlag => cases ht; exact h.dispatch 14 fun u tag d hu => by split <;> [exact hu.clearFlag tag _; exact hu]
  | readFloor => cases ht; exact h.dispatch 15 fun u tag d hu => by split <;> [exact hu.reply tag _; exact hu]
  | restart =>
    cases ht
    exact h.dispatch 16 fun u tag d hu => by
      split <;> [exact State.freeIsSilent_reset.of_same (t := u.restart tag) rfl; exact hu]
  | messageStart => cases ht; exact h.of_output s.sansOutput_startMessage
  | messageSent => cases ht; exact h.of_output s.sansOutput_finishMessage

end

/-- Settles O57: only a frame period moves a gain, and it holds a FREE channel at 0 (`State.rampGain_of_free`); a channel becomes FREE only
after a report (`State.FreeIsSilent.freeChan`), and what is reported stays RELEASING at gain 0 until then
(`State.FreeIsSilent.of_frozen`). -/
theorem stepKeepsFreeChannelsSilent : Obligations.StepKeepsFreeChannelsSilent := by
  intro s t h ht
  unfold step at ht
  split at ht
  · cases ht; exact h
  · next c rest _ => exact State.FreeIsSilent.exec (s := { s with pending := rest }) (h.of_same rfl) ht

end Sys2Proof.Machine
end
